-- ==== Sys2Proof/Word.lean ====
section
/-! DEFINITION. The widths PBSE works in: wire bytes, 16-bit temperatures, 32-bit registers. -/

namespace Sys2Proof

/-- One byte on the wire (20_memory.md R58). -/
abbrev Byte := BitVec 8

/-- A raw temperature, u16 centi-degrees (10_state.md R32). -/
abbrev Half := BitVec 16

/-- One register of the window (10_state.md R22). -/
abbrev Word := BitVec 32

end Sys2Proof
end

