-- ==== Sys2Proof/Machine/Event.lean ====
section
/-! DEFINITION. The steps the agents of 00_scope.md R7 can take, as plain data: State holds the ones still to come. -/

namespace Sys2Proof.Machine

/-- One step of one agent (00_scope.md R4, R7), or a change of an input pin. -/
inductive Event where
  /-- Host: read the word at byte offset `a` of the window (20_memory.md R57). -/
  | hostRead (a : BitVec 8)
  /-- Host: write the word `v` at byte offset `a` of the window (20_memory.md R57). -/
  | hostWrite (a : BitVec 8) (v : Word)
  /-- Host: an access narrower than 32 bits, which a model refuses (20_memory.md R60). -/
  | hostNarrow (a : BitVec 8)
  /-- Device: the byte `b` arrives (41_devicelink.md R90). -/
  | deviceSend (b : Byte)
  /-- Device: the offered byte is accepted (41_devicelink.md R89). -/
  | deviceAccept
  /-- Engine: its one enabled transition (42_protocol.md R97, 41_devicelink.md R94, 45_control_loop.md R121 to R123). -/
  | engine
  /-- Time base: one tick (60_exceptions.md R142). -/
  | tick
  /-- The input `link_up` takes a value (41_devicelink.md R88, R95). -/
  | link (up : Bool)
  /-- A pulse of `rst_n` (70_reset_and_hazards.md R146; log 5). -/
  | reset
deriving DecidableEq, Repr, Inhabited

end Sys2Proof.Machine
end

