-- ==== Sys2Proof/Config.lean ====
section
/-! DEFINITION. The implementation parameters of 00_scope.md R8, and the one free value: the step drawn when nothing is scheduled. -/

namespace Sys2Proof.Config

/-- `ID` (10_state.md R23). -/
def idValue : Word := 0x50425345

/-- Bytes of either frame (00_scope.md R8). -/
def frameLen : Nat := 64

/-- The 59 filler bytes sent (00_scope.md R8, 92_eei_decisions.md D10). -/
def fillByte : Byte := 0x00

/-- By how much `RXF_DEPTH` exceeds its least legal value, a parameter (00_scope.md R8, 93_implementation_defined.md item 9). Log 8. -/
opaque rxfDepthAbove65 : Nat

/-- `RXF_DEPTH` (00_scope.md R8): any value of at least 65. Log 8. -/
def rxfDepth : Nat := 65 + rxfDepthAbove65

/-- `CLAMP_MAX`, milliseconds (00_scope.md R8). -/
def clampMax : Nat := 10000

/-- Reset value of `CYCLE_PERIOD`, ten seconds (10_state.md R43). -/
def cyclePeriodReset : Word := 0x000A0000

/-- `TICK_HZ` (00_scope.md R8); no rule depends on real time. -/
def tickHz : Nat := 65536

/-- `PBSE_BASE`, OPEN (00_scope.md R8): the platform's decoding of it is outside PBSE (20_memory.md R57). Log 9. -/
opaque pbseBase : Nat

/-- The bus address of byte offset `a` of the window (20_memory.md R56, R57). -/
def busAddress (a : BitVec 8) : Nat := pbseBase + a.toNat

/-- `CLK_HZ`, OPEN (00_scope.md R8); no rule depends on it. Log 9. -/
opaque clkHz : Nat

/-- The prescaler from `CLK_HZ` to `TICK_HZ`, OPEN (00_scope.md R8); no rule depends on it. Log 9. -/
opaque prescaler : Nat

/-- FREE VALUE: the agent step taken when nothing is scheduled, the `n`-th draw (00_scope.md R7, 60_exceptions.md R139). Log 2. -/
opaque freeEvent : Nat → Machine.Event

end Sys2Proof.Config
end

