-- ==== Sys2Proof/Machine/Operands.lean ====
section
/-! DEFINITION. Operand assembly (30_encoding.md R78), the width functions (00_scope.md R10), the checksum (40_checksum.md R82, R83)
and the big-endian layout of the wire (20_memory.md R58). -/

namespace Sys2Proof.Machine

/-- `sext_N` (00_scope.md R10). -/
def sext {n : Nat} (v : BitVec n) : Int := v.toInt

/-- `zext_N` (00_scope.md R10). -/
def zext {n : Nat} (v : BitVec n) : Int := (v.toNat : Int)

/-- `mod_N` as the `N`-bit pattern (00_scope.md R10). -/
def modN (n : Nat) (v : Int) : BitVec n := BitVec.ofInt n v

/-- `sat_N` (00_scope.md R10). -/
def satN (n : Nat) (v : Int) : Int :=
  if v < -2 ^ (n - 1) then -2 ^ (n - 1)
  else if v > 2 ^ (n - 1) - 1 then 2 ^ (n - 1) - 1
  else v

/-- `floor_div` (00_scope.md R10). -/
def floorDiv (a b : Int) : Int := Int.fdiv a b

/-- `trunc_div` (00_scope.md R10). -/
def truncDiv (a b : Int) : Int := Int.tdiv a b

/-- One step of the running checksum (40_checksum.md R82). -/
def cksAdd (acc b : Byte) : Byte := BitVec.ofNat 8 ((acc.toNat + b.toNat) % 255)

/-- `cks(s)`, the hardware form (40_checksum.md R82). -/
def cks (bs : List Byte) : Byte := bs.foldl cksAdd 0

/-- `verify(t)`; false of the empty sequence, which the rule leaves out (40_checksum.md R83). -/
def verify (t : List Byte) : Bool :=
  match t.getLast? with
  | none => false
  | some last => cks t.dropLast == last

/-- A big-endian u16 (20_memory.md R58). -/
def be16 (hi lo : Byte) : Half := hi ++ lo

/-- The two wire bytes of a u16 (20_memory.md R58). -/
def bytes16 (v : Half) : List Byte := [v.extractLsb' 8 8, v.extractLsb' 0 8]

/-- A big-endian u32 (20_memory.md R58). -/
def be32 (b0 b1 b2 b3 : Byte) : Word := b0 ++ (b1 ++ (b2 ++ b3))

/-- The four wire bytes of a u32 (20_memory.md R58). -/
def bytes32 (v : Word) : List Byte :=
  [v.extractLsb' 24 8, v.extractLsb' 16 8, v.extractLsb' 8 8, v.extractLsb' 0 8]

/-- The 59 filler bytes (30_encoding.md R77). -/
def filler : List Byte := List.replicate 59 Config.fillByte

/-- The element frame's bytes for an on-time (30_encoding.md R77): the checksum is over the 4 payload bytes only. -/
def elementBytes (ms : Word) : List Byte := bytes32 ms ++ (filler ++ [cks (bytes32 ms)])

/-- The element frame as the 64-byte register `eframe` (42_protocol.md R104). -/
def elementVector (ms : Word) : Vector Byte 64 :=
  ⟨(elementBytes ms).toArray, by simp [elementBytes, bytes32, filler]⟩

/-- The 63 checked bytes of a temperature frame (30_encoding.md R76). -/
def tempBody (env bath : Half) (unused : List Byte) : List Byte := bytes16 env ++ (bytes16 bath ++ unused)

/-- The temperature frame's bytes (30_encoding.md R76). -/
def tempBytes (env bath : Half) (unused : List Byte) (trailer : Byte) : List Byte :=
  bytes16 env ++ (bytes16 bath ++ (unused ++ [trailer]))

end Sys2Proof.Machine
end

