-- ==== Sys2Proof/Syntax.lean ====
section
/-! DEFINITION. The instructions of PBSE: one constructor per row of spec/opcode_table.json, with the operands its encoding carries. -/

namespace Sys2Proof

/-- The rows of the opcode table. A CMD word's bits 31:4 are ignored by every rule (30_encoding.md R72); they are kept as `ign`,
so that an instruction stands for exactly one word. -/
inductive Instr where
  /-- CMD.OP 0x0 (30_encoding.md R79). -/
  | nop (ign : BitVec 28)
  /-- CMD.OP 0x1 (42_protocol.md R99). -/
  | readTemps (ign : BitVec 28)
  /-- CMD.OP 0x2 (42_protocol.md R104). -/
  | setElement (ign : BitVec 28)
  /-- CMD.OP 0x3 (43_pid.md R108). -/
  | pidCompute (ign : BitVec 28)
  /-- CMD.OP 0x4 (43_pid.md R109). -/
  | pidClear (ign : BitVec 28)
  /-- CMD.OP 0x5 (45_control_loop.md R124). -/
  | cycle (ign : BitVec 28)
  /-- CMD.OP 0x6 (41_devicelink.md R92). -/
  | flush (ign : BitVec 28)
  /-- CMD.OP 0x7, reserved (30_encoding.md R79). -/
  | reserved7 (ign : BitVec 28)
  /-- CMD.OP 0x8, reserved, the emergency-stop placeholder (30_encoding.md R79). -/
  | reserved8 (ign : BitVec 28)
  /-- CMD.OP 0x9, reserved (30_encoding.md R79). -/
  | reserved9 (ign : BitVec 28)
  /-- CMD.OP 0xA, reserved (30_encoding.md R79). -/
  | reservedA (ign : BitVec 28)
  /-- CMD.OP 0xB, reserved (30_encoding.md R79). -/
  | reservedB (ign : BitVec 28)
  /-- CMD.OP 0xC, reserved (30_encoding.md R79). -/
  | reservedC (ign : BitVec 28)
  /-- CMD.OP 0xD, reserved (30_encoding.md R79). -/
  | reservedD (ign : BitVec 28)
  /-- CMD.OP 0xE, reserved (30_encoding.md R79). -/
  | reservedE (ign : BitVec 28)
  /-- CMD.OP 0xF, reserved (30_encoding.md R79). -/
  | reservedF (ign : BitVec 28)
  /-- PBSE sends 0x05 (42_protocol.md R97). -/
  | txReady
  /-- PBSE sends 0x11 (42_protocol.md R99). -/
  | txTempRequest
  /-- PBSE sends 0x12 (42_protocol.md R104). -/
  | txSetRequest
  /-- PBSE sends the final 0x06 (42_protocol.md R102). -/
  | txAccept
  /-- Reply 0x06 (30_encoding.md R75). -/
  | rxAccept
  /-- Reply 0x15 (30_encoding.md R75). -/
  | rxDeny
  /-- Reply 0x18, reserved: never sent, a denial when received (30_encoding.md R79). -/
  | estopReserved
  /-- Any other reply byte: a denial (30_encoding.md R75). -/
  | rxOtherReply (b : Byte)
  /-- The temperature frame, bytes 0..63 (30_encoding.md R76); `unused` are bytes 4..62. -/
  | tempFrame (env bath : Half) (unused : List Byte) (trailer : Byte)
  /-- The element frame of an on-time (30_encoding.md R77). -/
  | elementFrame (ms : Word)
  /-- A write to CKS_DATA (40_checksum.md R87). -/
  | cksDataWrite (byte : Byte) (ign : BitVec 24)
deriving DecidableEq, Repr

end Sys2Proof
end

