-- ==== Sys2Proof/WellFormed.lean ====
section
/-! DEFINITION. Which terms of `Instr` an encoding stands for. -/

namespace Sys2Proof

/-- The catch-all reply row has lower priority than the three rows with a fixed byte (30_encoding.md R75, R79), and a temperature
frame has exactly 59 unused bytes (30_encoding.md R76). Every other row is well-formed at every operand. -/
def Instr.wf : Instr → Bool
  | .rxOtherReply b => b != 0x06 && b != 0x15 && b != 0x18
  | .tempFrame _ _ unused _ => unused.length == 59
  | .nop _ | .readTemps _ | .setElement _ | .pidCompute _ | .pidClear _ | .cycle _ | .flush _ => true
  | .reserved7 _ | .reserved8 _ | .reserved9 _ | .reservedA _ | .reservedB _ | .reservedC _ => true
  | .reservedD _ | .reservedE _ | .reservedF _ => true
  | .txReady | .txTempRequest | .txSetRequest | .txAccept | .rxAccept | .rxDeny | .estopReserved => true
  | .elementFrame _ | .cksDataWrite _ _ => true

/-- `i` is an instruction some encoding stands for. -/
abbrev WellFormed (i : Instr) : Prop := i.wf = true

end Sys2Proof
end

