-- ==== Sys2Proof/Decode.lean ====
section
/-! DEFINITION. Decoding and encoding. What a unit is, is fixed by where it stands and never by its content (30_encoding.md R80):
the channel says where. -/

namespace Sys2Proof

open Machine (cks be16 be32 filler elementBytes tempBytes)

/-- Where a unit stands: a register offset of the window, or a position of the protocol state machine (30_encoding.md R71, R80). -/
inductive Channel where
  /-- The word written to CMD (30_encoding.md R72). -/
  | cmd
  /-- The word written to CKS_DATA (40_checksum.md R87). -/
  | cksData
  /-- A control byte PBSE sends: states TX_ENQ, TX_REQ, TX_FRAME_ACK (30_encoding.md R74). -/
  | txControl
  /-- A reply byte: states RX_ENQ_ACK, RX_REQ_ACK, RX_FRAME_ACK (30_encoding.md R75). -/
  | rxReply
  /-- The 64 bytes of state RX_FRAME (30_encoding.md R76). -/
  | rxFrame
  /-- The 64 bytes of state TX_FRAME (30_encoding.md R77). -/
  | txFrame
deriving DecidableEq, Repr

/-- What stands there: one bus word, or wire bytes in the order they move. -/
inductive Raw where
  | word (v : Word)
  | bytes (bs : List Byte)
deriving DecidableEq, Repr

/-- Why a unit is no instruction. -/
inductive Reject where
  /-- A bus word where wire bytes stand, or the other way round. -/
  | wrongKind
  /-- Not the number of bytes the channel fixes (30_encoding.md R80). -/
  | wrongLength
  /-- A control byte PBSE never sends (42_protocol.md R105). -/
  | neverSent (b : Byte)
  /-- An element frame whose filler is not `FILL_BYTE` (30_encoding.md R77). -/
  | badFiller
  /-- An element frame whose trailer is not the checksum of its payload (30_encoding.md R77). -/
  | badTrailer
deriving DecidableEq, Repr

/-- The CMD word (30_encoding.md R72): OP in bits 3:0, bits 31:4 ignored. Total: every word is a command. -/
def decodeCmd (v : Word) : Instr :=
  let ign := v.extractLsb' 4 28
  match (v.extractLsb' 0 4).toNat with
  | 0 => .nop ign
  | 1 => .readTemps ign
  | 2 => .setElement ign
  | 3 => .pidCompute ign
  | 4 => .pidClear ign
  | 5 => .cycle ign
  | 6 => .flush ign
  | 7 => .reserved7 ign
  | 8 => .reserved8 ign
  | 9 => .reserved9 ign
  | 10 => .reservedA ign
  | 11 => .reservedB ign
  | 12 => .reservedC ign
  | 13 => .reservedD ign
  | 14 => .reservedE ign
  | _ => .reservedF ign

/-- The reply byte (30_encoding.md R75). Total: every byte is a reply. -/
def decodeReply (b : Byte) : Instr :=
  if b = 0x06 then .rxAccept
  else if b = 0x15 then .rxDeny
  else if b = 0x18 then .estopReserved
  else .rxOtherReply b

/-- The control byte sent (30_encoding.md R74, 42_protocol.md R97, R105). -/
def decodeTx (b : Byte) : Except Reject Instr :=
  if b = 0x05 then .ok .txReady
  else if b = 0x11 then .ok .txTempRequest
  else if b = 0x12 then .ok .txSetRequest
  else if b = 0x06 then .ok .txAccept
  else .error (.neverSent b)

/-- The temperature frame (30_encoding.md R76). The trailer is an operand: a bad one is a stale read, not an undecodable frame. -/
def decodeTempFrame (bs : List Byte) : Except Reject Instr :=
  if bs.length = 64 then
    match bs with
    | e1 :: e0 :: b1 :: b0 :: rest =>
      .ok (.tempFrame (be16 e1 e0) (be16 b1 b0) (rest.take 59) (rest.getD 59 0))
    | _ => .error .wrongLength
  else .error .wrongLength

/-- The element frame (30_encoding.md R77). -/
def decodeElementFrame (bs : List Byte) : Except Reject Instr :=
  if bs.length = 64 then
    match bs with
    | m3 :: m2 :: m1 :: m0 :: rest =>
      if rest.take 59 = filler then
        if rest.getD 59 0 = cks [m3, m2, m1, m0] then .ok (.elementFrame (be32 m3 m2 m1 m0))
        else .error .badTrailer
      else .error .badFiller
    | _ => .error .wrongLength
  else .error .wrongLength

/-- The instruction at a channel, or the name of what is wrong with it. Total on every unit. -/
def decode : Channel → Raw → Except Reject Instr
  | .cmd, .word v => .ok (decodeCmd v)
  | .cksData, .word v => .ok (.cksDataWrite (v.extractLsb' 0 8) (v.extractLsb' 8 24))
  | .txControl, .bytes [b] => decodeTx b
  | .rxReply, .bytes [b] => .ok (decodeReply b)
  | .rxFrame, .bytes bs => decodeTempFrame bs
  | .txFrame, .bytes bs => decodeElementFrame bs
  | .txControl, .bytes _ => .error .wrongLength
  | .rxReply, .bytes _ => .error .wrongLength
  | _, _ => .error .wrongKind

/-- A CMD word from its OP and its ignored bits (30_encoding.md R72). -/
def cmdWord (op : BitVec 4) (ign : BitVec 28) : Word := ign ++ op

/-- Where an instruction stands, and its word or bytes there (30_encoding.md R72 to R77). -/
def encode : Instr → Channel × Raw
  | .nop ign => (.cmd, .word (cmdWord 0x0 ign))
  | .readTemps ign => (.cmd, .word (cmdWord 0x1 ign))
  | .setElement ign => (.cmd, .word (cmdWord 0x2 ign))
  | .pidCompute ign => (.cmd, .word (cmdWord 0x3 ign))
  | .pidClear ign => (.cmd, .word (cmdWord 0x4 ign))
  | .cycle ign => (.cmd, .word (cmdWord 0x5 ign))
  | .flush ign => (.cmd, .word (cmdWord 0x6 ign))
  | .reserved7 ign => (.cmd, .word (cmdWord 0x7 ign))
  | .reserved8 ign => (.cmd, .word (cmdWord 0x8 ign))
  | .reserved9 ign => (.cmd, .word (cmdWord 0x9 ign))
  | .reservedA ign => (.cmd, .word (cmdWord 0xA ign))
  | .reservedB ign => (.cmd, .word (cmdWord 0xB ign))
  | .reservedC ign => (.cmd, .word (cmdWord 0xC ign))
  | .reservedD ign => (.cmd, .word (cmdWord 0xD ign))
  | .reservedE ign => (.cmd, .word (cmdWord 0xE ign))
  | .reservedF ign => (.cmd, .word (cmdWord 0xF ign))
  | .txReady => (.txControl, .bytes [0x05])
  | .txTempRequest => (.txControl, .bytes [0x11])
  | .txSetRequest => (.txControl, .bytes [0x12])
  | .txAccept => (.txControl, .bytes [0x06])
  | .rxAccept => (.rxReply, .bytes [0x06])
  | .rxDeny => (.rxReply, .bytes [0x15])
  | .estopReserved => (.rxReply, .bytes [0x18])
  | .rxOtherReply b => (.rxReply, .bytes [b])
  | .tempFrame env bath unused trailer => (.rxFrame, .bytes (tempBytes env bath unused trailer))
  | .elementFrame ms => (.txFrame, .bytes (elementBytes ms))
  | .cksDataWrite byte ign => (.cksData, .word (ign ++ byte))

/-- The 64 bytes of a table word: the first byte is bits 7..0. -/
def tableBytes (w : Nat) : List Byte := (List.range 64).map fun k => BitVec.ofNat 8 (w / 256 ^ k)

/-- The channel a word of spec/opcode_table.json is read at. The table's rows overlap and its word does not say where it stands, so
a convention is needed (log 14, DESIGN CHOICE): up to 8 bits, a sent byte or an accept, then a CMD row, then the other replies; up to
32 bits, the OP of a CMD row but 0, else a CKS_DATA write; 64 bytes are the element frame they spell, else a temperature frame. -/
def tableChannel (nbits w : Nat) : Option (Channel × Raw) :=
  if nbits = 0 then none
  else if nbits ≤ 8 then
    let b := BitVec.ofNat 8 w
    if nbits = 8 ∧ (b = 0x05 ∨ b = 0x11 ∨ b = 0x12) then some (.txControl, .bytes [b])
    else if nbits = 8 ∧ b = 0x06 then some (.rxReply, .bytes [b])
    else if w < 16 then some (.cmd, .word (BitVec.ofNat 32 w))
    else some (.rxReply, .bytes [b])
  else if nbits ≤ 32 then
    if 0 < w ∧ w < 16 then some (.cmd, .word (BitVec.ofNat 32 w))
    else some (.cksData, .word (BitVec.ofNat 32 w))
  else if nbits ≤ 512 then
    match decodeElementFrame (tableBytes w) with
    | .ok _ => some (.txFrame, .bytes (tableBytes w))
    | .error _ => some (.rxFrame, .bytes (tableBytes w))
  else none

/-- The instruction `decode` reads from a word of spec/opcode_table.json, laid out at the channel `tableChannel` gives it. -/
def decodeTableWord (nbits w : Nat) : Option Instr :=
  match tableChannel nbits (if nbits ≤ 32 then w % 2 ^ nbits else w) with
  | none => none
  | some (ch, raw) =>
    match decode ch raw with
    | .ok i => some i
    | .error _ => none

end Sys2Proof
end

