-- ==== Sys2Proof/Machine/State.lean ====
section
/-! DEFINITION. The complete state of PBSE (10_state.md R16) as plain data, the reasons a step can stop, and the state after reset
(70_reset_and_hazards.md R147). -/

namespace Sys2Proof.Machine

/-- `fsm` (10_state.md R18); the codes 11 to 15 are never produced (log 16). -/
inductive Fsm where
  | idle | txEnq | rxEnqAck | txReq | rxReqAck | rxFrame | txFrameAck | txFrame | rxFrameAck | exec | loopWait
deriving DecidableEq, Repr

/-- `op`, the link operation in flight (10_state.md R19). -/
inductive LinkOp where
  | none | read | set
deriving DecidableEq, Repr

/-- `origin`, what started the operation (10_state.md R19). -/
inductive Origin where
  | none | host | cycleCmd | loop
deriving DecidableEq, Repr

/-- `loop_phase` (10_state.md R53). -/
inductive LoopPhase where
  | off | initRead | cycleSet | cycleRead | wait
deriving DecidableEq, Repr

/-- `STATUS.SESSION` (10_state.md R21); the value 3 is never produced (log 16). -/
inductive Session where
  | idle | heating | deviceError
deriving DecidableEq, Repr

/-- `ERR_CAUSE.CODE` (60_exceptions.md R128); the codes 7 to 15 are never produced (log 16). -/
inductive ErrCode where
  | none | handshakeDenied | checksumMismatch | timeout | connectionError | illegalCmd | cmdRejected
deriving DecidableEq, Repr

/-- The outcome of a link operation that did not raise (42_protocol.md R98). -/
inductive LinkResult where
  | ok | stale
deriving DecidableEq, Repr

/-- The record `ERR_CAUSE` (10_state.md R27). -/
structure ErrCause where
  code  : ErrCode
  phase : BitVec 3
  nak   : Bool
  byte  : Byte
  op    : BitVec 4
  seq   : Bool
deriving DecidableEq, Repr

/-- No error recorded (10_state.md R27). -/
def ErrCause.clear : ErrCause :=
  { code := .none, phase := 0, nak := false, byte := 0, op := 0, seq := false }

/-- The record `CKS_DIAG` (10_state.md R44). -/
structure CksDiag where
  computed : Byte
  trailer : Byte
  matched : Bool
  dir     : Bool
  valid   : Bool
deriving DecidableEq, Repr

/-- The registers of the window (10_state.md R22). -/
inductive Reg where
  | id | ctrl | status | cmd | errCause | ier | ipr | timeout | time | envTemp | bathTemp | target | onTime | kp | ki | kd
  | errIn | pidOut | ciLo | ciHi | prevErr | prevTime | ecoef | mscoef | deficit | lastOnTime | cyclePeriod | cksDiag
  | cksAcc | cksData
deriving DecidableEq, Repr

/-- The state of PBSE (10_state.md R16), and after `linkUp` the model's own fields. -/
structure State where
  /-- `CTRL.START` (R24). -/
  start       : Bool
  /-- `CTRL.LOOP_EN` (R24). -/
  loopEn      : Bool
  /-- `CTRL.AUTOFLUSH` (R24). -/
  autoflush   : Bool
  /-- `CTRL.PID_AUTOCLR` (R24). -/
  pidAutoclr  : Bool
  /-- `STATUS.SESSION` (R21). -/
  session     : Session
  /-- `STATUS.FRESH` (R20). -/
  fresh       : Bool
  /-- `STATUS.LOOP_RUN` (R20). -/
  loopRun     : Bool
  /-- `STATUS.FATAL` (R20). -/
  fatal       : Bool
  /-- `STATUS.PID_SAT` (R20). -/
  pidSat      : Bool
  /-- `STATUS.RX_OVF` (R20). -/
  rxOvf       : Bool
  /-- `ERR_CAUSE` (R27). -/
  errCause    : ErrCause
  /-- `IER` (R28). -/
  ier         : BitVec 5
  /-- `IPR` (R29). -/
  ipr         : BitVec 5
  /-- `TIMEOUT` (R30). -/
  timeout     : Word
  /-- `TIME` (R31). -/
  time        : Word
  /-- `ENV_TEMP` (R32). -/
  envTemp     : Half
  /-- `BATH_TEMP` (R32). -/
  bathTemp    : Half
  /-- `TARGET` (R33). -/
  target      : Half
  /-- `ON_TIME` (R34). -/
  onTime      : Word
  /-- `KP` (R35). -/
  kp          : Word
  /-- `KI` (R35). -/
  ki          : Word
  /-- `KD` (R35). -/
  kd          : Word
  /-- `ERR_IN` (R36). -/
  errIn       : Word
  /-- `PID_OUT` (R37). -/
  pidOut      : Word
  /-- `{CI_HI, CI_LO}` (R38). -/
  ci          : BitVec 64
  /-- `PREV_ERR` (R39). -/
  prevErr     : Word
  /-- `PREV_TIME` (R39). -/
  prevTime    : Word
  /-- `ECOEF` (R40). -/
  ecoef       : Word
  /-- `MSCOEF` (R40). -/
  mscoef      : Word
  /-- `DEFICIT` (R41). -/
  deficit     : Word
  /-- `LAST_ON_TIME` (R42). -/
  lastOnTime  : Word
  /-- `CYCLE_PERIOD` (R43). -/
  cyclePeriod : Word
  /-- `CKS_DIAG` (R44). -/
  cksDiag     : CksDiag
  /-- `CKS_ACC` (R45). -/
  cksAcc      : Byte
  /-- `fsm` (R18). -/
  fsm         : Fsm
  /-- `op` (R19). -/
  op          : LinkOp
  /-- `idx` (R19). -/
  idx         : Nat
  /-- `origin` (R19). -/
  origin      : Origin
  /-- `host_op` (R19). -/
  hostOp      : BitVec 4
  /-- The receive FIFO, oldest first (R49). -/
  rxfifo      : List Byte
  /-- The running frame checksum `acc` (R51). -/
  acc         : Byte
  /-- `pay[0..3]` (R51). -/
  pay         : Vector Byte 4
  /-- `trailer` (R51). -/
  trailer     : Byte
  /-- `set_val` (R51, R54). -/
  setVal      : Word
  /-- `eframe[0..63]` (R51). -/
  eframe      : Vector Byte 64
  /-- `wait_start` (R52). -/
  waitStart   : Word
  /-- `wait_bound` (R52). -/
  waitBound   : Word
  /-- `cycle_start` (R53). -/
  cycleStart  : Word
  /-- `loop_phase` (R53). -/
  loopPhase   : LoopPhase
  /-- `heat_entry` (R53). -/
  heatEntry   : Bool
  /-- `snap_e` (R54). -/
  snapE       : Int
  /-- `snap_kp` (R54). -/
  snapKp      : Int
  /-- `snap_ki` (R54). -/
  snapKi      : Int
  /-- `snap_kd` (R54). -/
  snapKd      : Int
  /-- `pend_env` (R55). -/
  pendEnv     : Half
  /-- `pend_bath` (R55). -/
  pendBath    : Half
  /-- The input `link_up` (R16 (i)). Log 4 for its value at reset. -/
  linkUp      : Bool
  /-- MODEL's own: what `bus_rdata` showed at the last host read (41_devicelink.md R88; log 6). -/
  busRdata    : Word
  /-- MODEL's own: the wire trace, the bytes the device has received, oldest first (41_devicelink.md R89; log 7). -/
  wire        : List Byte
  /-- MODEL's own: the bytes of the temperature frame taken so far, oldest first, from which the frame is decoded when its last byte is
  taken (log 13). -/
  collected   : List Byte
  /-- MODEL's own: the agent steps still to come (log 1). -/
  pending     : List Event
  /-- MODEL's own: how many steps have been free draws (log 2). -/
  draws       : Nat
deriving DecidableEq, Repr

/-- Why the machine stops. -/
inductive Fault where
  /-- Raised by Agents.execStep: the engine is in EXEC and no command or cycle owns the computation. Safe: no state that meets
  Safety.Inv is such a state, and no rule gives it an effect (log 11). -/
  | execWithoutOperation
deriving DecidableEq, Repr

/-- Why a step has no meaning. -/
inductive Refusal where
  /-- Raised by exec only, for an instruction with no meaning yet; no arm of exec raises it. Safe. -/
  | notModelled (mnemonic : String)
  /-- Raised by Agents.agentStep on a host access narrower than 32 bits: "a model refuses such an access" (20_memory.md R60).
  Safe. -/
  | narrowBusAccess
deriving DecidableEq, Repr

/-- The state after reset (70_reset_and_hazards.md R147). `linkUp`, `busRdata`, `wire`, `collected`, `pending` and `draws` have no
reset value in the spec: log 4, 6, 7, 13, 1 and 2. -/
def State.reset : State :=
  { start := false, loopEn := false, autoflush := true, pidAutoclr := false
    session := .idle, fresh := false, loopRun := false, fatal := false, pidSat := false, rxOvf := false
    errCause := ErrCause.clear, ier := 0, ipr := 0, timeout := 0, time := 0
    envTemp := 0, bathTemp := 0, target := 0, onTime := 0, kp := 0, ki := 0, kd := 0, errIn := 0
    pidOut := 0, ci := 0, prevErr := 0, prevTime := 0, ecoef := 0, mscoef := 0, deficit := 0, lastOnTime := 0
    cyclePeriod := Config.cyclePeriodReset
    cksDiag := { computed := 0, trailer := 0, matched := false, dir := false, valid := false }
    cksAcc := 0
    fsm := .idle, op := .none, idx := 0, origin := .none, hostOp := 0
    rxfifo := [], acc := 0, pay := Vector.replicate 4 0, trailer := 0, setVal := 0, eframe := Vector.replicate 64 0
    waitStart := 0, waitBound := 0, cycleStart := 0, loopPhase := .off, heatEntry := false
    snapE := 0, snapKp := 0, snapKi := 0, snapKd := 0, pendEnv := 0, pendBath := 0
    linkUp := true
    busRdata := 0, wire := [], collected := [], pending := [], draws := 0 }

end Sys2Proof.Machine
end

