-- ==== Sys2Proof/Machine/Flags.lean ====
section
/-! DEFINITION. The flags and the words of the status registers: what is derived from State and how each register's fields are laid
out (10_state.md R18 to R29, R44; 60_exceptions.md R128, R134). -/

namespace Sys2Proof.Machine

/-- `STATUS.FSM` (10_state.md R18). -/
def Fsm.code : Fsm → BitVec 4
  | .idle => 0 | .txEnq => 1 | .rxEnqAck => 2 | .txReq => 3 | .rxReqAck => 4 | .rxFrame => 5
  | .txFrameAck => 6 | .txFrame => 7 | .rxFrameAck => 8 | .exec => 9 | .loopWait => 10

/-- `STATUS.SESSION` (10_state.md R21). -/
def Session.code : Session → BitVec 2
  | .idle => 0 | .heating => 1 | .deviceError => 2

/-- `ERR_CAUSE.CODE` (60_exceptions.md R128). -/
def ErrCode.code : ErrCode → BitVec 4
  | .none => 0 | .handshakeDenied => 1 | .checksumMismatch => 2 | .timeout => 3 | .connectionError => 4
  | .illegalCmd => 5 | .cmdRejected => 6

/-- Codes 1, 3 and 4 are fatal (60_exceptions.md R128, R129). -/
def ErrCode.isFatal : ErrCode → Bool
  | .handshakeDenied | .timeout | .connectionError => true
  | .none | .checksumMismatch | .illegalCmd | .cmdRejected => false

/-- One bit as a field. -/
def bit (b : Bool) : BitVec 1 := BitVec.ofBool b

/-- `STATUS.BUSY` (10_state.md R20, R25). -/
def busy (s : State) : Bool :=
  match s.fsm with
  | .idle | .loopWait => false
  | .txEnq | .rxEnqAck | .txReq | .rxReqAck | .rxFrame | .txFrameAck | .txFrame | .rxFrameAck | .exec => true

/-- `STATUS.TARGET_REACHED` (10_state.md R20, R25). -/
def targetReached (s : State) : Bool := s.fresh && decide (zext s.bathTemp ≥ zext s.target)

/-- `STATUS.RX_COUNT` (10_state.md R25). -/
def rxCount (s : State) : BitVec 8 := BitVec.ofNat 8 (min s.rxfifo.length 255)

/-- `STATUS` (10_state.md R25). -/
def statusWord (s : State) : Word :=
  0#8 ++ (rxCount s ++ (s.fsm.code ++ (0#3 ++ (bit s.rxOvf ++ (bit s.pidSat ++ (bit s.fatal ++ (bit s.loopRun ++
    (bit (targetReached s) ++ (bit s.fresh ++ (s.session.code ++ bit (busy s)))))))))))

/-- `CTRL` (10_state.md R24). -/
def ctrlWord (s : State) : Word :=
  0#28 ++ (bit s.pidAutoclr ++ (bit s.autoflush ++ (bit s.loopEn ++ bit s.start)))

/-- `ERR_CAUSE` (10_state.md R27). -/
def errWord (c : ErrCause) : Word :=
  0#11 ++ (bit c.seq ++ (c.op ++ (c.byte ++ (bit c.nak ++ (c.phase ++ c.code.code)))))

/-- `CKS_DIAG` (10_state.md R44). -/
def diagWord (d : CksDiag) : Word :=
  0#13 ++ (bit d.valid ++ (bit d.dir ++ (bit d.matched ++ (d.trailer ++ d.computed))))

/-- `IPR.DONE` (10_state.md R29). -/
def iprDone : BitVec 5 := 0b00001
/-- `IPR.FAIL` (10_state.md R29). -/
def iprFail : BitVec 5 := 0b00010
/-- `IPR.STALE` (10_state.md R29). -/
def iprStale : BitVec 5 := 0b00100
/-- `IPR.CMDERR` (10_state.md R29). -/
def iprCmderr : BitVec 5 := 0b01000
/-- `IPR.CYCLE` (10_state.md R29). -/
def iprCycle : BitVec 5 := 0b10000

/-- The output `irq` (60_exceptions.md R134). -/
def irq (s : State) : Bool := decide (s.ipr &&& s.ier ≠ 0)

/-- The states that offer a byte (41_devicelink.md R89). -/
def Fsm.sending : Fsm → Bool
  | .txEnq | .txReq | .txFrameAck | .txFrame => true
  | .idle | .rxEnqAck | .rxReqAck | .rxFrame | .rxFrameAck | .exec | .loopWait => false

/-- The receiving states (42_protocol.md R97). -/
def Fsm.receiving : Fsm → Bool
  | .rxEnqAck | .rxReqAck | .rxFrame | .rxFrameAck => true
  | .idle | .txEnq | .txReq | .txFrameAck | .txFrame | .exec | .loopWait => false

/-- The receiving states that take one reply byte (30_encoding.md R75). -/
def Fsm.replying : Fsm → Bool
  | .rxEnqAck | .rxReqAck | .rxFrameAck => true
  | .idle | .txEnq | .txReq | .rxFrame | .txFrameAck | .txFrame | .exec | .loopWait => false

/-- `ERR_CAUSE.PHASE` of an error in a waiting state (41_devicelink.md R94, 42_protocol.md R97); 0 where no wait stands. -/
def Fsm.phase : Fsm → BitVec 3
  | .rxEnqAck => 1 | .rxReqAck => 2 | .rxFrameAck => 3 | .rxFrame => 4
  | .txEnq | .txReq | .txFrameAck | .txFrame => 5
  | .idle | .exec | .loopWait => 0

end Sys2Proof.Machine
end

