-- ==== Sys2Proof/Machine/Ops.lean ====
section
/-! DEFINITION. The shared operations: waits, the FIFO, the wire, recording an error and ending an operation with it (60_exceptions.md
R129 to R131), its acknowledgement (R137), and the register window (10_state.md R22 to R47, 20_memory.md R57). -/

namespace Sys2Proof.Machine

/-- `enter(S)` (42_protocol.md R97, 41_devicelink.md R94). -/
def enter (f : Fsm) (s : State) : State :=
  { s with fsm := f, waitStart := s.time, waitBound := s.timeout }

/-- Sets bits of `IPR` (60_exceptions.md R134). -/
def setIpr (bits : BitVec 5) (s : State) : State := { s with ipr := s.ipr ||| bits }

/-- `flush_rx()` (41_devicelink.md R92). -/
def flushRx (s : State) : State := { s with rxfifo := [] }

/-- Drops the byte `RxByte()` returns (41_devicelink.md R90). -/
def popRx (s : State) : State := { s with rxfifo := s.rxfifo.tail }

/-- The device takes a byte: it joins the wire trace (41_devicelink.md R89). -/
def sendByte (b : Byte) (s : State) : State := { s with wire := s.wire ++ [b] }

/-- The byte on the transmit port, where one is offered (10_state.md R50, 42_protocol.md R97). -/
def offered (s : State) : Option Byte :=
  match s.fsm with
  | .txEnq => some 0x05
  | .txReq => some (if s.op = .read then 0x11 else 0x12)
  | .txFrameAck => some 0x06
  | .txFrame => s.eframe[s.idx]?
  | .idle | .rxEnqAck | .rxReqAck | .rxFrame | .rxFrameAck | .exec | .loopWait => none

/-- The reply byte the engine can decode now (30_encoding.md R75, 42_protocol.md R97). -/
def replyByte (s : State) : Option Byte := if s.fsm.replying then s.rxfifo.head? else none

/-- `fatal()` (60_exceptions.md R131). -/
def goFatal (s : State) : State :=
  { s with fatal := true, session := .deviceError, loopEn := false, loopRun := false, loopPhase := .off }

/-- `record_error` (60_exceptions.md R129). -/
def recordError (code : ErrCode) (phase : BitVec 3) (byte : Byte) (op : BitVec 4) (seq : Bool) (s : State) : State :=
  let s1 : State :=
    { s with
      errCause :=
        { code := code, phase := phase, nak := decide (code = .handshakeDenied ∧ byte = 0x15), byte := byte, op := op, seq := seq } }
  match code with
  | .handshakeDenied | .timeout | .connectionError => goFatal (setIpr iprFail s1)
  | .illegalCmd | .cmdRejected => setIpr iprCmderr s1
  | .none | .checksumMismatch => s1

/-- `opc` of `raise` (60_exceptions.md R130): the link operation in flight, else what the raiser names. -/
def errorOp (s : State) (given : BitVec 4) : BitVec 4 :=
  match s.op with
  | .read => 1
  | .set => 2
  | .none => given

/-- TAKING AN ERROR, `raise E(phase, byte)` (60_exceptions.md R130): ends the operation in flight; `given` is the OP the raiser names. -/
def raiseError (code : ErrCode) (phase : BitVec 3) (byte : Byte) (given : BitVec 4) (s : State) : State :=
  let opc := errorOp s given
  let was := s.origin
  let s1 : State := { s with fsm := .idle, op := .none, idx := 0 }
  let s2 := recordError code phase byte opc (decide (was ≠ .host)) s1
  let s3 := if was = .host ∨ was = .cycleCmd then setIpr iprDone s2 else s2
  { s3 with origin := .none, hostOp := 0, loopPhase := .off }

/-- THE RETURN FROM A FATAL ERROR, the write of 1 to `STATUS.FATAL` (60_exceptions.md R137, 45_control_loop.md R119). -/
def clearFatal (s : State) : State :=
  { s with fatal := false, session := if s.session = .deviceError then .idle else s.session }

/-- The register at byte offset `a`: `a[7:2]` selects, `a[1:0]` is ignored (20_memory.md R57); none where reserved (10_state.md R47). -/
def Reg.ofOffset (a : BitVec 8) : Option Reg :=
  match (a.extractLsb' 2 6).toNat with
  | 0 => some .id | 1 => some .ctrl | 2 => some .status | 3 => some .cmd | 4 => some .errCause | 5 => some .ier
  | 6 => some .ipr | 7 => some .timeout | 8 => some .time | 9 => some .envTemp | 10 => some .bathTemp | 11 => some .target
  | 12 => some .onTime | 13 => some .kp | 14 => some .ki | 15 => some .kd | 16 => some .errIn | 17 => some .pidOut
  | 18 => some .ciLo | 19 => some .ciHi | 20 => some .prevErr | 21 => some .prevTime | 22 => some .ecoef
  | 23 => some .mscoef | 24 => some .deficit | 25 => some .lastOnTime | 26 => some .cyclePeriod | 27 => some .cksDiag
  | 28 => some .cksAcc | 29 => some .cksData
  | _ => none

/-- The word offset of a register (10_state.md R22). -/
def Reg.offset : Reg → BitVec 8
  | .id => 0x00 | .ctrl => 0x04 | .status => 0x08 | .cmd => 0x0C | .errCause => 0x10 | .ier => 0x14 | .ipr => 0x18
  | .timeout => 0x1C | .time => 0x20 | .envTemp => 0x24 | .bathTemp => 0x28 | .target => 0x2C | .onTime => 0x30
  | .kp => 0x34 | .ki => 0x38 | .kd => 0x3C | .errIn => 0x40 | .pidOut => 0x44 | .ciLo => 0x48 | .ciHi => 0x4C
  | .prevErr => 0x50 | .prevTime => 0x54 | .ecoef => 0x58 | .mscoef => 0x5C | .deficit => 0x60 | .lastOnTime => 0x64
  | .cyclePeriod => 0x68 | .cksDiag => 0x6C | .cksAcc => 0x70 | .cksData => 0x74

/-- What a host read of a register returns (10_state.md R23 to R46). -/
def regRead (r : Reg) (s : State) : Word :=
  match r with
  | .id => Config.idValue
  | .ctrl => ctrlWord s
  | .status => statusWord s
  | .cmd => 0
  | .errCause => errWord s.errCause
  | .ier => s.ier.setWidth 32
  | .ipr => s.ipr.setWidth 32
  | .timeout => s.timeout
  | .time => s.time
  | .envTemp => s.envTemp.setWidth 32
  | .bathTemp => s.bathTemp.setWidth 32
  | .target => s.target.setWidth 32
  | .onTime => s.onTime
  | .kp => s.kp
  | .ki => s.ki
  | .kd => s.kd
  | .errIn => s.errIn
  | .pidOut => s.pidOut
  | .ciLo => s.ci.extractLsb' 0 32
  | .ciHi => s.ci.extractLsb' 32 32
  | .prevErr => s.prevErr
  | .prevTime => s.prevTime
  | .ecoef => s.ecoef
  | .mscoef => s.mscoef
  | .deficit => s.deficit
  | .lastOnTime => s.lastOnTime
  | .cyclePeriod => s.cyclePeriod
  | .cksDiag => diagWord s.cksDiag
  | .cksAcc => s.cksAcc.setWidth 32
  | .cksData => 0

/-- A host write of `CTRL` (10_state.md R24): `LOOP_EN` stays 0 while `FATAL = 1`. -/
def writeCtrl (v : Word) (s : State) : State :=
  { s with
    start := v.getLsbD 0, loopEn := v.getLsbD 1 && !s.fatal, autoflush := v.getLsbD 2, pidAutoclr := v.getLsbD 3 }

/-- A host write of `STATUS` (10_state.md R25): bits 6, 7 and 8 are write-1-to-clear. -/
def writeStatus (v : Word) (s : State) : State :=
  let s1 := if v.getLsbD 6 then clearFatal s else s
  { s1 with pidSat := s1.pidSat && !v.getLsbD 7, rxOvf := s1.rxOvf && !v.getLsbD 8 }

/-- A host write of a register (10_state.md R22 to R46). The writes of `CMD` and `CKS_DATA` are the table's instructions: Turn.turn
gives them to exec and never comes here with them. -/
def regWrite (r : Reg) (v : Word) (s : State) : State :=
  match r with
  | .ctrl => writeCtrl v s
  | .status => writeStatus v s
  | .errCause => { s with errCause := ErrCause.clear }
  | .ier => { s with ier := v.setWidth 5 }
  | .ipr => { s with ipr := s.ipr &&& ~~~(v.setWidth 5) }
  | .timeout => { s with timeout := v }
  | .target => { s with target := v.setWidth 16 }
  | .onTime => { s with onTime := v }
  | .kp => { s with kp := v }
  | .ki => { s with ki := v }
  | .kd => { s with kd := v }
  | .errIn => { s with errIn := v }
  | .ecoef => { s with ecoef := v }
  | .mscoef => { s with mscoef := v }
  | .cyclePeriod => { s with cyclePeriod := v }
  | .cksAcc => { s with cksAcc := 0 }
  | .id | .time | .envTemp | .bathTemp | .pidOut | .ciLo | .ciHi | .prevErr | .prevTime => s
  | .deficit | .lastOnTime | .cksDiag => s
  | .cmd | .cksData => s

/-- `MemRead(PBSE_BASE + a, 4)`: reserved offsets read 0 (20_memory.md R57, 10_state.md R47). -/
def windowRead (a : BitVec 8) (s : State) : Word :=
  match Reg.ofOffset a with
  | some r => regRead r s
  | none => 0

/-- `MemWrite(PBSE_BASE + a, 4, v)` of a register that starts no instruction; reserved offsets ignore it (20_memory.md R57,
10_state.md R47). -/
def windowWrite (a : BitVec 8) (v : Word) (s : State) : State :=
  match Reg.ofOffset a with
  | some r => regWrite r v s
  | none => s

end Sys2Proof.Machine
end

