-- ==== Sys2Proof/Machine/Pid.lean ====
section
/-! DEFINITION. The PID engine (43_pid.md R106, R109) and the deficit and on-time datapath (44_thermal.md R115, R116). -/

namespace Sys2Proof.Machine

/-- `dt`, ticks since the last computation, mod 2^32 (43_pid.md R106 step 1). -/
def pidDt (s : State) : Int := zext (s.time - s.prevTime)

/-- `de` (43_pid.md R106 step 1). -/
def pidDe (e : Int) (s : State) : Int := e - sext s.prevErr

/-- `ci_sum` (43_pid.md R106 step 3). -/
def pidCiSum (e : Int) (s : State) : Int := sext s.ci + e * pidDt s

/-- `ci` (43_pid.md R106 step 3). -/
def pidCi (e : Int) (s : State) : Int := satN 64 (pidCiSum e s)

/-- `d` (43_pid.md R106 step 4). -/
def pidD (e : Int) (s : State) : Int :=
  if pidDt s > 0 then truncDiv (pidDe e s * 2 ^ 16) (pidDt s) else 0

/-- `s` of step 5, at scale 2^-48 (43_pid.md R106). -/
def pidSum (e kp ki kd : Int) (s : State) : Int :=
  kp * e * 2 ^ 16 + ki * pidCi e s + kd * pidD e s * 2 ^ 16

/-- `q` (43_pid.md R106 step 5). -/
def pidQ (e kp ki kd : Int) (s : State) : Int := floorDiv (pidSum e kp ki kd s) (2 ^ 32)

/-- `pid_step(e, kp, ki, kd)` (43_pid.md R106). -/
def pidStep (e kp ki kd : Int) (s : State) : State :=
  { s with
    ci := modN 64 (pidCi e s)
    pidOut := modN 32 (satN 32 (pidQ e kp ki kd s))
    prevErr := modN 32 e
    prevTime := s.time
    pidSat := s.pidSat || decide (pidCi e s ≠ pidCiSum e s ∨ satN 32 (pidQ e kp ki kd s) ≠ pidQ e kp ki kd s) }

/-- `pid_clear()` (43_pid.md R109). -/
def pidClear (s : State) : State := { s with ci := 0, prevErr := 0, prevTime := s.time }

/-- `def_x` (44_thermal.md R115). -/
def deficitExact (s : State) : Int := sext s.ecoef * (zext s.target - zext s.bathTemp)

/-- `deficit`, what `deficit_step()` returns (44_thermal.md R115). -/
def deficitValue (s : State) : Int := satN 32 (deficitExact s)

/-- `deficit_step()` (44_thermal.md R115). -/
def deficitStep (s : State) : State :=
  { s with
    deficit := modN 32 (deficitValue s)
    pidSat := s.pidSat || decide (deficitValue s ≠ deficitExact s) }

/-- `ms_x` (44_thermal.md R116). -/
def onTimeExact (out mscoef : Word) : Int := sext out * sext mscoef

/-- `ontime_step(out)` (44_thermal.md R116): none does not actuate. -/
def onTimeStep (out mscoef : Word) : Option Word :=
  let msX := onTimeExact out mscoef
  if msX ≤ 0 then none
  else if msX > (Config.clampMax : Int) * 2 ^ 32 then some (modN 32 Config.clampMax)
  else some (modN 32 (floorDiv msX (2 ^ 32)))

end Sys2Proof.Machine
end

