-- ==== Sys2Proof/Machine/Loop.lean ====
section
/-! DEFINITION. Starting a link operation (42_protocol.md R96), the session (45_control_loop.md R119) and the sequencer (R121 to
R123). -/

namespace Sys2Proof.Machine

/-- `start_link(k)` (42_protocol.md R96, 41_devicelink.md R93). -/
def startLink (k : LinkOp) (s : State) : State :=
  let s1 := if s.autoflush then flushRx s else s
  enter .txEnq { s1 with op := k, idx := 0, acc := 0 }

/-- `seq_start_link(k)` (45_control_loop.md R121). -/
def seqStartLink (k : LinkOp) (s : State) : State :=
  if s.linkUp then startLink k s
  else raiseError .connectionError 0 0 (if k = .read then 1 else 2) s

/-- `session_at_cycle_start()` (45_control_loop.md R119). -/
def sessionAtCycleStart (s : State) : State :=
  let s1 : State := { s with heatEntry := false }
  if s1.fatal then s1
  else if s1.session = .idle ∧ s1.start ∧ s1.fresh then
    let s2 : State := { s1 with session := .heating, heatEntry := true }
    if s2.pidAutoclr then pidClear s2 else s2
  else if s1.session = .heating ∧ ¬ s1.start then { s1 with session := .idle }
  else s1

/-- `session_on_read(FRESH)` (45_control_loop.md R119). -/
def sessionOnFresh (s : State) : State :=
  if s.session = .deviceError ∧ ¬ s.fatal then
    { s with session := if s.start then .heating else .idle }
  else s

/-- `session_on_read(STALE)` (45_control_loop.md R119). -/
def sessionOnStale (s : State) : State := { s with session := .deviceError }

/-- The computation of a cycle's EXEC step after the session is set, and the on-time it commands if any (45_control_loop.md R121). -/
def controlCompute (s : State) : State × Option Word :=
  if s.session = .heating then
    let s1 := deficitStep s
    if deficitValue s > 0 then
      let s2 := pidStep (deficitValue s) (sext s.kp) (sext s.ki) (sext s.kd) s1
      (s2, onTimeStep s2.pidOut s2.mscoef)
    else (s1, none)
  else (s, none)

/-- The control computation, the EXEC step of a cycle (45_control_loop.md R121). With `link_up = 0` the start it decides fails, and the
failing step performs only the effects of R130 (60_exceptions.md R132): the error is taken on `s`, and of the computation only the
decision shows, in `ERR_CAUSE.OP` (log 19). -/
def controlStep (s : State) : State :=
  match controlCompute (sessionAtCycleStart s) with
  | (s1, some ms) => seqStartLink .set (if s.linkUp then { s1 with setVal := ms } else s)
  | (s1, none) => seqStartLink .read (if s.linkUp then { s1 with loopPhase := .cycleRead } else s)

/-- The loop may start (45_control_loop.md R122). -/
def loopCanStart (s : State) : Bool := s.loopEn && decide (s.fsm = .idle) && !s.fatal && !s.loopRun

/-- `loop_start` (45_control_loop.md R122). -/
def loopStart (s : State) : State :=
  seqStartLink .read { s with loopRun := true, origin := .loop, hostOp := 0, loopPhase := .initRead }

/-- `begin_cycle()` (45_control_loop.md R122). -/
def beginCycle (s : State) : State := { s with cycleStart := s.time, loopPhase := .cycleSet, fsm := .exec }

/-- `loop_stop()` (45_control_loop.md R122). -/
def loopStop (s : State) : State := { s with loopRun := false, loopPhase := .off, fsm := .idle, origin := .none }

/-- The end of a host command (42_protocol.md R98, 43_pid.md R108, R109). -/
def endHost (s : State) : State :=
  { setIpr iprDone s with fsm := .idle, origin := .none, hostOp := 0 }

/-- `sequencer_continue(result)` (45_control_loop.md R122); the phases OFF and WAIT have no arm there (log 12). -/
def sequencerContinue (_result : LinkResult) (s : State) : State :=
  match s.loopPhase with
  | .initRead => if s.loopEn then beginCycle s else loopStop s
  | .cycleSet => seqStartLink .read { s with loopPhase := .cycleRead }
  | .cycleRead =>
    let s1 := setIpr iprCycle s
    if s1.origin = .cycleCmd then endHost { s1 with loopPhase := .off }
    else { s1 with loopPhase := .wait, fsm := .loopWait }
  | .off | .wait => s

/-- LOOP_WAIT's step is enabled (45_control_loop.md R123). -/
def waitOver (s : State) : Bool :=
  !s.loopEn || decide (zext (s.time - s.cycleStart) ≥ zext s.cyclePeriod)

/-- The step of LOOP_WAIT (45_control_loop.md R123): a cleared `LOOP_EN` wins. -/
def loopWaitStep (s : State) : State :=
  if waitOver s then (if s.loopEn then beginCycle s else loopStop s) else s

end Sys2Proof.Machine
end

