-- ==== Sys2Proof/Machine/Protocol.lean ====
section
/-! DEFINITION. The protocol state machine (42_protocol.md R97 to R104) and the wait bound (41_devicelink.md R94). -/

namespace Sys2Proof.Machine

/-- `end_link(result)` (42_protocol.md R98). -/
def endLink (r : LinkResult) (s : State) : State :=
  let s1 : State := { s with op := .none, idx := 0 }
  if s1.origin = .host then endHost s1 else sequencerContinue r s1

/-- `commit_reading()` (42_protocol.md R102). -/
def commitReading (s : State) : State :=
  sessionOnFresh { s with envTemp := s.pendEnv, bathTemp := s.pendBath, fresh := true }

/-- `stale()` (42_protocol.md R103). -/
def stale (s : State) : State :=
  let s1 := setIpr iprStale { s with fresh := false }
  endLink .stale (sessionOnStale (recordError .checksumMismatch 4 s1.trailer 1 (decide (s1.origin ≠ .host)) s1))

/-- `verify_frame()` (42_protocol.md R101). -/
def verifyFrame (s : State) : State :=
  let s1 : State :=
    { s with cksDiag := { computed := s.acc, trailer := s.trailer, matched := s.acc == s.trailer, dir := false, valid := true } }
  if s1.acc = s1.trailer then
    enter .txFrameAck { s1 with pendEnv := be16 s1.pay[0] s1.pay[1], pendBath := be16 s1.pay[2] s1.pay[3] }
  else stale s1

/-- One byte of a temperature frame, already taken from the FIFO (42_protocol.md R100). -/
def rxFrameByte (b : Byte) (s : State) : State :=
  let s1 : State := if s.idx ≤ 3 then { s with pay := s.pay.setIfInBounds s.idx b } else s
  let s2 : State := if s1.idx ≤ 62 then { s1 with acc := cksAdd s1.acc b } else { s1 with trailer := b }
  let s3 : State := { s2 with collected := s2.collected ++ [b], idx := s2.idx + 1 }
  if s3.idx = 64 then verifyFrame s3 else s3

/-- The step of RX_FRAME where a byte is there (42_protocol.md R100). -/
def rxFrameStep (s : State) : State :=
  match s.fsm, s.rxfifo with
  | .rxFrame, b :: rest => rxFrameByte b { s with rxfifo := rest }
  | _, _ => s

/-- `build_element_frame()` (42_protocol.md R104). -/
def buildElementFrame (s : State) : State :=
  let c := cks (bytes32 s.setVal)
  { s with
    eframe := elementVector s.setVal
    acc := c
    lastOnTime := s.setVal
    cksDiag := { computed := c, trailer := c, matched := true, dir := true, valid := true } }

/-- The reply 0x06, already taken from the FIFO (42_protocol.md R97). -/
def acceptReply (s : State) : State :=
  match s.fsm with
  | .rxEnqAck => enter .txReq s
  | .rxReqAck =>
    if s.op = .read then enter .rxFrame { s with idx := 0, acc := 0, collected := [] }
    else enter .txFrame (buildElementFrame s)
  | .rxFrameAck => endLink .ok s
  | .idle | .txEnq | .txReq | .rxFrame | .txFrameAck | .txFrame | .exec | .loopWait => s

/-- A reply other than 0x06, already taken from the FIFO (42_protocol.md R97, 30_encoding.md R75). -/
def denyReply (b : Byte) (s : State) : State := raiseError .handshakeDenied s.fsm.phase b 0 s

/-- The reply `b` is taken where it stands first in the FIFO of a reply state; elsewhere no such step is enabled (log 3). -/
def takeReply (b : Byte) (react : State → State) (s : State) : State :=
  if replyByte s = some b then react (popRx s) else s

/-- The transition out of a sending state (42_protocol.md R97). -/
def afterAccept (s : State) : State :=
  match s.fsm with
  | .txEnq => enter .rxEnqAck s
  | .txReq => enter .rxReqAck s
  | .txFrameAck => endLink .ok (commitReading s)
  | .txFrame =>
    let s1 : State := { s with idx := s.idx + 1 }
    if s1.idx = 64 then enter .rxFrameAck s1 else s1
  | .idle | .rxEnqAck | .rxReqAck | .rxFrame | .rxFrameAck | .exec | .loopWait => s

/-- `device_accept` (41_devicelink.md R89); not enabled where no byte is offered (log 3). -/
def deviceAccept (s : State) : State :=
  match offered s with
  | some b => afterAccept (sendByte b s)
  | none => s

/-- The device accepts the control byte `b` offered in state `f`; elsewhere no such step is enabled (log 3). -/
def acceptControl (f : Fsm) (b : Byte) (s : State) : State :=
  if s.fsm = f ∧ offered s = some b then deviceAccept s else s

/-- `device_send(b)` (41_devicelink.md R90). -/
def deviceSend (b : Byte) (s : State) : State :=
  if s.rxfifo.length < Config.rxfDepth then { s with rxfifo := s.rxfifo ++ [b] } else { s with rxOvf := true }

/-- The 64 bytes of the temperature frame that the engine's next step completes (30_encoding.md R76, R80; log 13). -/
def frameCompleted (s : State) : Option (List Byte) :=
  if s.fsm = .rxFrame ∧ s.idx = 63 then s.rxfifo.head?.map fun b => s.collected ++ [b] else none

/-- The 64 bytes of the element frame that the device's next acceptance completes (30_encoding.md R77, R80; log 13). -/
def frameSent (s : State) : Option (List Byte) :=
  if s.fsm = .txFrame ∧ s.idx = 63 then some s.eframe.toList else none

/-- The timeout step is enabled (41_devicelink.md R94). -/
def timeoutEnabled (s : State) : Bool :=
  (s.fsm.sending || s.fsm.receiving) && decide (s.waitBound ≠ 0) &&
    decide (zext (s.time - s.waitStart) ≥ zext s.waitBound) &&
    !(s.fsm.receiving && !s.rxfifo.isEmpty)

/-- The timeout step (41_devicelink.md R94). -/
def timeoutStep (s : State) : State :=
  if timeoutEnabled s then raiseError .timeout s.fsm.phase 0 0 s else s

end Sys2Proof.Machine
end

