-- ==== Sys2Proof/Machine/Agents.lean ====
section
/-! DEFINITION. The agents' steps that are no row of the opcode table, and where the next step finds its instruction. -/

namespace Sys2Proof.Machine

/-- The EXEC step (43_pid.md R108, R109, 45_control_loop.md R121). -/
def execStep (s : State) : Host.Outcome State Fault Refusal :=
  match s.origin with
  | .cycleCmd | .loop => .next (controlStep s)
  | .host =>
    if s.hostOp = 0x3 then .next (endHost (pidStep s.snapE s.snapKp s.snapKi s.snapKd s))
    else if s.hostOp = 0x4 then .next (endHost (pidClear s))
    else .fault .execWithoutOperation
  | .none => .fault .execWithoutOperation

/-- The engine's enabled step, but for a waiting reply byte, which is an instruction (42_protocol.md R97, 41_devicelink.md R94,
45_control_loop.md R121 to R123). Where none is enabled the state stays (log 3). -/
def engineStep (s : State) : Host.Outcome State Fault Refusal :=
  match s.fsm with
  | .idle => .next (if loopCanStart s then loopStart s else s)
  | .txEnq | .txReq | .txFrameAck | .txFrame => .next (timeoutStep s)
  | .rxEnqAck | .rxReqAck | .rxFrameAck => .next (timeoutStep s)
  | .rxFrame => .next (if s.rxfifo.isEmpty then timeoutStep s else rxFrameStep s)
  | .exec => execStep s
  | .loopWait => .next (loopWaitStep s)

/-- A pulse of `rst_n` (70_reset_and_hazards.md R146): the inputs, the device's record and the schedule are not PBSE's (log 5). -/
def resetPulse (s : State) : State :=
  { State.reset with linkUp := s.linkUp, wire := s.wire, pending := s.pending, draws := s.draws }

/-- The steps that run no instruction of the table. -/
def agentStep (e : Event) (s : State) : Host.Outcome State Fault Refusal :=
  match e with
  | .hostRead a => .next { s with busRdata := windowRead a s }
  | .hostWrite a v => .next (windowWrite a v s)
  | .hostNarrow _ => .refused .narrowBusAccess
  | .deviceSend b => .next (deviceSend b s)
  | .deviceAccept => .next (deviceAccept s)
  | .engine => engineStep s
  | .tick => .next { s with time := s.time + 1 }
  | .link up => .next { s with linkUp := up }
  | .reset => .next (resetPulse s)

/-- The unit of the opcode table a step is about, if it is about one: where it stands and what stands there (30_encoding.md R71,
R80). -/
def fetchUnit (e : Event) (s : State) : Option (Channel × Raw) :=
  match e with
  | .hostWrite a v =>
    match Reg.ofOffset a with
    | some .cmd => some (.cmd, .word v)
    | some .cksData => some (.cksData, .word v)
    | _ => none
  | .deviceAccept =>
    match s.fsm with
    | .txEnq | .txReq | .txFrameAck => (offered s).map fun b => (.txControl, .bytes [b])
    | .txFrame => (frameSent s).map fun bs => (.txFrame, .bytes bs)
    | _ => none
  | .engine =>
    match s.fsm with
    | .rxFrame => (frameCompleted s).map fun bs => (.rxFrame, .bytes bs)
    | _ => (replyByte s).map fun b => (.rxReply, .bytes [b])
  | .hostRead _ | .hostNarrow _ | .deviceSend _ | .tick | .link _ | .reset => none

/-- The instruction a step runs, if it runs one: what the decoder reads from its unit. -/
def fetch (e : Event) (s : State) : Option Instr :=
  match fetchUnit e s with
  | some (ch, raw) =>
    match decode ch raw with
    | .ok i => some i
    | .error _ => none
  | none => none

/-- The step that brings an instruction to PBSE, as an event. -/
def eventOf (i : Instr) : Event :=
  match encode i with
  | (.cmd, .word v) => .hostWrite Reg.cmd.offset v
  | (.cksData, .word v) => .hostWrite Reg.cksData.offset v
  | (.txControl, _) => .deviceAccept
  | (.rxReply, _) => .engine
  | (.rxFrame, _) => .engine
  | (.txFrame, _) => .deviceAccept
  | _ => .engine

/-- A host link operation standing in state `f` (10_state.md R19). -/
def inOperation (f : Fsm) (k : LinkOp) (s : State) : State :=
  { s with
    fsm := f, op := k, idx := 0, origin := .host, hostOp := if k = .read then 0x1 else 0x2, loopRun := false, loopPhase := .off }

/-- What the fetch of an instruction needs beside its event: the position of the protocol state machine at which that unit stands,
and the byte or frame there (log 15). A bus write needs nothing. -/
def positionFor (i : Instr) (s : State) : State :=
  match i with
  | .txReady => inOperation .txEnq .read s
  | .txTempRequest => inOperation .txReq .read s
  | .txSetRequest => inOperation .txReq .set s
  | .txAccept => { inOperation .txFrameAck .read s with idx := 64 }
  | .rxAccept => { inOperation .rxEnqAck .read s with rxfifo := 0x06 :: s.rxfifo.tail }
  | .rxDeny => { inOperation .rxEnqAck .read s with rxfifo := 0x15 :: s.rxfifo.tail }
  | .estopReserved => { inOperation .rxEnqAck .read s with rxfifo := 0x18 :: s.rxfifo.tail }
  | .rxOtherReply b => { inOperation .rxEnqAck .read s with rxfifo := b :: s.rxfifo.tail }
  | .tempFrame env bath unused trailer =>
    { inOperation .rxFrame .read s with
      idx := 63, collected := tempBody env bath unused, acc := cks (tempBody env bath unused)
      pay := #v[env.extractLsb' 8 8, env.extractLsb' 0 8, bath.extractLsb' 8 8, bath.extractLsb' 0 8]
      rxfifo := trailer :: s.rxfifo.tail }
  | .elementFrame ms => { inOperation .txFrame .set (buildElementFrame { s with setVal := ms }) with idx := 63 }
  | .nop _ | .readTemps _ | .setElement _ | .pidCompute _ | .pidClear _ | .cycle _ | .flush _ => s
  | .reserved7 _ | .reserved8 _ | .reserved9 _ | .reservedA _ | .reservedB _ | .reservedC _ => s
  | .reservedD _ | .reservedE _ | .reservedF _ => s
  | .cksDataWrite _ _ => s

/-- `i` placed where the next step runs it. -/
def place (i : Instr) (s : State) : State :=
  let s1 := positionFor i s
  { s1 with pending := eventOf i :: s1.pending }

end Sys2Proof.Machine
end

