-- ==== Sys2Proof/Machine/Command.lean ====
section
/-! DEFINITION. The CMD family: what a host write to CMD does (30_encoding.md R73), one meaning per opcode. -/

namespace Sys2Proof.Machine

/-- A command may not be written now (30_encoding.md R73). -/
def cmdBlocked (s : State) : Bool := busy s || s.loopRun

/-- Rejection by CMD_REJECTED (30_encoding.md R73). -/
def rejectCmd (op : BitVec 4) (s : State) : State := recordError .cmdRejected 0 0 op false s

/-- The acceptance of an opcode that is not NOP and not reserved (30_encoding.md R73): `start` is its arm of the case. -/
def acceptCmd (op : BitVec 4) (needsLink : Bool) (origin : Origin) (start : State → State) (s : State) : State :=
  if cmdBlocked s then rejectCmd op s
  else if needsLink && !s.linkUp then
    setIpr iprDone (recordError .connectionError 0 0 op (decide (op = 0x5)) s)
  else start { s with hostOp := op, origin := origin }

/-- A reserved opcode (30_encoding.md R73, R79). -/
def reservedCmd (op : BitVec 4) (s : State) : State :=
  if cmdBlocked s then rejectCmd op s else recordError .illegalCmd 0 0 op false s

/-- NOP: no effect at all (30_encoding.md R73, R79). -/
def execNop (_ign : BitVec 28) (s : State) : Host.Outcome State Fault Refusal := .next s

/-- READ_TEMPS (42_protocol.md R99). -/
def execReadTemps (_ign : BitVec 28) (s : State) : Host.Outcome State Fault Refusal :=
  .next (acceptCmd 0x1 true .host (startLink .read) s)

/-- SET_ELEMENT (42_protocol.md R104). -/
def execSetElement (_ign : BitVec 28) (s : State) : Host.Outcome State Fault Refusal :=
  .next (acceptCmd 0x2 true .host (fun t => startLink .set { t with setVal := t.onTime }) s)

/-- PID_COMPUTE's acceptance step (43_pid.md R108). -/
def execPidCompute (_ign : BitVec 28) (s : State) : Host.Outcome State Fault Refusal :=
  .next (acceptCmd 0x3 false .host
    (fun t => { t with snapE := sext t.errIn, snapKp := sext t.kp, snapKi := sext t.ki, snapKd := sext t.kd, fsm := .exec }) s)

/-- PID_CLEAR's acceptance step (43_pid.md R109). -/
def execPidClear (_ign : BitVec 28) (s : State) : Host.Outcome State Fault Refusal :=
  .next (acceptCmd 0x4 false .host (fun t => { t with fsm := .exec }) s)

/-- CYCLE's acceptance step (45_control_loop.md R124). -/
def execCycle (_ign : BitVec 28) (s : State) : Host.Outcome State Fault Refusal :=
  .next (acceptCmd 0x5 true .cycleCmd (fun t => { t with fsm := .exec, cycleStart := t.time, loopPhase := .cycleSet }) s)

/-- FLUSH, all in its acceptance step (41_devicelink.md R92). -/
def execFlush (_ign : BitVec 28) (s : State) : Host.Outcome State Fault Refusal :=
  .next (acceptCmd 0x6 false .host (fun t => { setIpr iprDone (flushRx t) with hostOp := 0, origin := .none }) s)

/-- RESERVED_0x7 (30_encoding.md R79). -/
def execReserved7 (_ign : BitVec 28) (s : State) : Host.Outcome State Fault Refusal := .next (reservedCmd 0x7 s)
/-- RESERVED_0x8 (30_encoding.md R79). -/
def execReserved8 (_ign : BitVec 28) (s : State) : Host.Outcome State Fault Refusal := .next (reservedCmd 0x8 s)
/-- RESERVED_0x9 (30_encoding.md R79). -/
def execReserved9 (_ign : BitVec 28) (s : State) : Host.Outcome State Fault Refusal := .next (reservedCmd 0x9 s)
/-- RESERVED_0xA (30_encoding.md R79). -/
def execReservedA (_ign : BitVec 28) (s : State) : Host.Outcome State Fault Refusal := .next (reservedCmd 0xA s)
/-- RESERVED_0xB (30_encoding.md R79). -/
def execReservedB (_ign : BitVec 28) (s : State) : Host.Outcome State Fault Refusal := .next (reservedCmd 0xB s)
/-- RESERVED_0xC (30_encoding.md R79). -/
def execReservedC (_ign : BitVec 28) (s : State) : Host.Outcome State Fault Refusal := .next (reservedCmd 0xC s)
/-- RESERVED_0xD (30_encoding.md R79). -/
def execReservedD (_ign : BitVec 28) (s : State) : Host.Outcome State Fault Refusal := .next (reservedCmd 0xD s)
/-- RESERVED_0xE (30_encoding.md R79). -/
def execReservedE (_ign : BitVec 28) (s : State) : Host.Outcome State Fault Refusal := .next (reservedCmd 0xE s)
/-- RESERVED_0xF (30_encoding.md R79). -/
def execReservedF (_ign : BitVec 28) (s : State) : Host.Outcome State Fault Refusal := .next (reservedCmd 0xF s)

end Sys2Proof.Machine
end

