-- ==== Sys2Proof/Machine/Wire.lean ====
section
/-! DEFINITION. The wire families: the control bytes sent and received (30_encoding.md R74, R75), the two frames (R76, R77), and the
CKS_DATA write (40_checksum.md R87). A control byte moves only where it is offered or awaited, and a frame is an instruction at the
step of its last byte (log 13); elsewhere the step is not enabled and leaves the state as it is (log 3). -/

namespace Sys2Proof.Machine

/-- TX_READY: the device accepts 0x05 in TX_ENQ (42_protocol.md R97). -/
def execTxReady (s : State) : Host.Outcome State Fault Refusal := .next (acceptControl .txEnq 0x05 s)

/-- TX_TEMP_REQUEST: the device accepts 0x11 in TX_REQ (42_protocol.md R97). -/
def execTxTempRequest (s : State) : Host.Outcome State Fault Refusal := .next (acceptControl .txReq 0x11 s)

/-- TX_SET_REQUEST: the device accepts 0x12 in TX_REQ (42_protocol.md R97). -/
def execTxSetRequest (s : State) : Host.Outcome State Fault Refusal := .next (acceptControl .txReq 0x12 s)

/-- TX_ACCEPT: the device accepts the final 0x06 and the reading is committed (42_protocol.md R102). -/
def execTxAccept (s : State) : Host.Outcome State Fault Refusal := .next (acceptControl .txFrameAck 0x06 s)

/-- RX_ACCEPT: the engine takes the reply 0x06 (30_encoding.md R75). -/
def execRxAccept (s : State) : Host.Outcome State Fault Refusal := .next (takeReply 0x06 acceptReply s)

/-- RX_DENY: the engine takes the reply 0x15 (30_encoding.md R75). -/
def execRxDeny (s : State) : Host.Outcome State Fault Refusal := .next (takeReply 0x15 (denyReply 0x15) s)

/-- ESTOP_RESERVED: never sent; as a reply a denial (30_encoding.md R79). -/
def execEstopReserved (s : State) : Host.Outcome State Fault Refusal := .next (takeReply 0x18 (denyReply 0x18) s)

/-- RX_OTHER_REPLY: any other reply is a denial (30_encoding.md R75). -/
def execRxOtherReply (b : Byte) (s : State) : Host.Outcome State Fault Refusal := .next (takeReply b (denyReply b) s)

/-- TEMP_FRAME: the engine takes the byte that completes this frame and verifies it (30_encoding.md R76, 42_protocol.md R100, R101;
log 13). -/
def execTempFrame (env bath : Half) (unused : List Byte) (trailer : Byte) (s : State) : Host.Outcome State Fault Refusal :=
  .next (if frameCompleted s = some (tempBytes env bath unused trailer) then rxFrameStep s else s)

/-- ELEMENT_FRAME: the device accepts the byte that completes this frame (30_encoding.md R77, 42_protocol.md R97; log 13). -/
def execElementFrame (ms : Word) (s : State) : Host.Outcome State Fault Refusal :=
  .next (if frameSent s = some (elementBytes ms) then deviceAccept s else s)

/-- CKS_DATA_WRITE (40_checksum.md R87). -/
def execCksDataWrite (byte : Byte) (_ign : BitVec 24) (s : State) : Host.Outcome State Fault Refusal :=
  .next { s with cksAcc := cksAdd s.cksAcc byte }

end Sys2Proof.Machine
end

