-- ==== Sys2Proof/Machine/Dispatch.lean ====
section
/-! DEFINITION. One arm per row of the opcode table. -/

namespace Sys2Proof.Machine

def exec (i : Instr) (s : State) : Host.Outcome State Fault Refusal :=
  match i with
  | .nop ign => Sys2Proof.Machine.execNop ign s
  | .readTemps ign => Sys2Proof.Machine.execReadTemps ign s
  | .setElement ign => Sys2Proof.Machine.execSetElement ign s
  | .pidCompute ign => Sys2Proof.Machine.execPidCompute ign s
  | .pidClear ign => Sys2Proof.Machine.execPidClear ign s
  | .cycle ign => Sys2Proof.Machine.execCycle ign s
  | .flush ign => Sys2Proof.Machine.execFlush ign s
  | .reserved7 ign => Sys2Proof.Machine.execReserved7 ign s
  | .reserved8 ign => Sys2Proof.Machine.execReserved8 ign s
  | .reserved9 ign => Sys2Proof.Machine.execReserved9 ign s
  | .reservedA ign => Sys2Proof.Machine.execReservedA ign s
  | .reservedB ign => Sys2Proof.Machine.execReservedB ign s
  | .reservedC ign => Sys2Proof.Machine.execReservedC ign s
  | .reservedD ign => Sys2Proof.Machine.execReservedD ign s
  | .reservedE ign => Sys2Proof.Machine.execReservedE ign s
  | .reservedF ign => Sys2Proof.Machine.execReservedF ign s
  | .txReady => Sys2Proof.Machine.execTxReady s
  | .txTempRequest => Sys2Proof.Machine.execTxTempRequest s
  | .txSetRequest => Sys2Proof.Machine.execTxSetRequest s
  | .txAccept => Sys2Proof.Machine.execTxAccept s
  | .rxAccept => Sys2Proof.Machine.execRxAccept s
  | .rxDeny => Sys2Proof.Machine.execRxDeny s
  | .estopReserved => Sys2Proof.Machine.execEstopReserved s
  | .rxOtherReply b => Sys2Proof.Machine.execRxOtherReply b s
  | .tempFrame env bath unused trailer => Sys2Proof.Machine.execTempFrame env bath unused trailer s
  | .elementFrame ms => Sys2Proof.Machine.execElementFrame ms s
  | .cksDataWrite byte ign => Sys2Proof.Machine.execCksDataWrite byte ign s

end Sys2Proof.Machine
end

