-- ==== Sys2Proof/Machine/Turn.lean ====
section
/-! DEFINITION. One agent step: the instruction it carries, where it carries one, else the step itself. -/

namespace Sys2Proof.Machine

/-- The step `e` (00_scope.md R4). -/
def turn (e : Event) (s : State) : Host.Outcome State Fault Refusal :=
  match fetch e s with
  | some i => exec i s
  | none => agentStep e s

/-- The next scheduled step, or a free draw where none is scheduled (log 1, 2), and the state without it. -/
def nextEvent (s : State) : Event × State :=
  match s.pending with
  | [] => (Config.freeEvent s.draws, { s with draws := s.draws + 1 })
  | e :: rest => (e, { s with pending := rest })

end Sys2Proof.Machine
end

