-- ==== Sys2Proof/Machine/Step.lean ====
section
/-! DEFINITION. The step of the machine, and how an instruction is placed for it. -/

namespace Sys2Proof.Machine

/-- One step of PBSE (00_scope.md R4). -/
def step (s : State) : Host.Outcome State Fault Refusal :=
  turn (nextEvent s).1 (nextEvent s).2

/-- `s` with the instruction of a table word placed where the next step runs it (log 15). -/
def State.withFetchWord (s : State) (nbits w : Nat) : State :=
  match decodeTableWord nbits w with
  | some i => place i s
  | none => s

end Sys2Proof.Machine
end

