-- ==== Sys2Proof/Safety.lean ====
section
/-! DEFINITION. What claims call a safe state: the invariant of every state a run from reset reaches, and the words the statements
use. -/

namespace Sys2Proof.Machine

/-- Who owns the link operation in flight, and that its kind fits (10_state.md R19, R53; 45_control_loop.md R120, R122). -/
def linkOwned (s : State) : Prop :=
  (s.origin = .host ∧ s.loopPhase = .off ∧ ((s.op = .read ∧ s.hostOp = 0x1) ∨ (s.op = .set ∧ s.hostOp = 0x2))) ∨
  (s.origin = .cycleCmd ∧ s.hostOp = 0x5 ∧
    ((s.op = .set ∧ s.loopPhase = .cycleSet) ∨ (s.op = .read ∧ s.loopPhase = .cycleRead))) ∨
  (s.origin = .loop ∧ s.hostOp = 0 ∧
    ((s.op = .read ∧ s.loopPhase = .initRead) ∨ (s.op = .set ∧ s.loopPhase = .cycleSet) ∨
      (s.op = .read ∧ s.loopPhase = .cycleRead)))

/-- Who owns the computation of EXEC (43_pid.md R108, R109; 45_control_loop.md R122, R124). -/
def execOwned (s : State) : Prop :=
  s.op = .none ∧
  ((s.origin = .host ∧ (s.hostOp = 0x3 ∨ s.hostOp = 0x4) ∧ s.loopPhase = .off) ∨
   (s.origin = .cycleCmd ∧ s.hostOp = 0x5 ∧ s.loopPhase = .cycleSet) ∨
   (s.origin = .loop ∧ s.hostOp = 0 ∧ s.loopPhase = .cycleSet))

/-- The sequencing context each position of `fsm` stands in (10_state.md R18, R19). -/
def contextOk (s : State) : Prop :=
  match s.fsm with
  | .idle => s.op = .none ∧ s.idx = 0 ∧ s.origin = .none ∧ s.hostOp = 0 ∧ s.loopPhase = .off
  | .txEnq | .rxEnqAck | .txReq | .rxReqAck => linkOwned s ∧ s.idx = 0
  | .rxFrame => linkOwned s ∧ s.op = .read ∧ s.idx < 64
  | .txFrameAck => linkOwned s ∧ s.op = .read ∧ s.idx = 64
  | .txFrame => linkOwned s ∧ s.op = .set ∧ s.idx < 64
  | .rxFrameAck => linkOwned s ∧ s.op = .set ∧ s.idx = 64
  | .exec => execOwned s ∧ s.idx = 0
  | .loopWait => s.op = .none ∧ s.idx = 0 ∧ s.origin = .loop ∧ s.hostOp = 0 ∧ s.loopPhase = .wait

/-- A signed 32-bit integer (10_state.md R54). -/
def inS32 (v : Int) : Prop := -2 ^ 31 ≤ v ∧ v < 2 ^ 31

/-- The invariant of PBSE. -/
structure Inv (s : State) : Prop where
  /-- `acc` is 0..254 (10_state.md R51). -/
  accRange : s.acc.toNat < 255
  /-- `CKS_ACC` is 0..254 (10_state.md R45). -/
  cksAccRange : s.cksAcc.toNat < 255
  /-- The FIFO holds at most RXF_DEPTH bytes (10_state.md R49). -/
  fifoBound : s.rxfifo.length ≤ Config.rxfDepth
  /-- A fatal error pins the session and stops the loop (60_exceptions.md R131). -/
  fatalPins : s.fatal = true → s.session = .deviceError ∧ s.loopEn = false ∧ s.loopRun = false
  /-- `LOOP_RUN` is 1 exactly while the sequencer owns the engine (45_control_loop.md R122). -/
  loopRunIff : s.loopRun = true ↔ s.origin = .loop
  /-- The sequencing context fits `fsm`. -/
  context : contextOk s
  /-- While an element frame is sent or awaits its reply, `eframe` is the frame of `set_val`, which `LAST_ON_TIME` shows
  (42_protocol.md R104, 10_state.md R42). -/
  frameSent : s.fsm = .txFrame ∨ s.fsm = .rxFrameAck → s.eframe = elementVector s.setVal ∧ s.lastOnTime = s.setVal
  /-- While a temperature frame is collected, `acc` and `pay` are those of the bytes taken (42_protocol.md R100). -/
  collecting : s.fsm = .rxFrame →
    s.collected.length = s.idx ∧ s.acc = cks s.collected ∧ ∀ i : Fin 4, i.val < s.idx → s.collected[i.val]? = some s.pay[i]
  /-- A set that the sequencer or a CYCLE command started is within the clamp (45_control_loop.md R125). -/
  clamped : s.op = .set → s.origin ≠ .host → s.setVal.toNat ≤ Config.clampMax
  /-- The snapshot holds sign-extended registers (10_state.md R54). -/
  snapRange : inS32 s.snapE ∧ inS32 s.snapKp ∧ inS32 s.snapKi ∧ inS32 s.snapKd

/-- The engine has taken the 63 checked bytes of a temperature frame and awaits its trailer (42_protocol.md R100). -/
def FrameCollected (env bath : Half) (unused : List Byte) (s : State) : Prop :=
  s.fsm = .rxFrame ∧ s.idx = 63 ∧ s.collected = tempBody env bath unused ∧ s.acc = cks (tempBody env bath unused) ∧
  s.pay = #v[env.extractLsb' 8 8, env.extractLsb' 0 8, bath.extractLsb' 8 8, bath.extractLsb' 0 8]

/-- No command is rejected now (30_encoding.md R73). -/
def CmdFree (s : State) : Prop := busy s = false ∧ s.loopRun = false

/-- The bytes of a list as one sum (40_checksum.md R82). -/
def byteSum (bs : List Byte) : Nat := (bs.map BitVec.toNat).sum

/-- The step that writes 1 to `STATUS.FATAL` (10_state.md R25). -/
def clearsFatal (e : Event) : Bool :=
  match e with
  | .hostWrite a v => decide (Reg.ofOffset a = some .status) && v.getLsbD 6
  | .hostRead _ | .hostNarrow _ | .deviceSend _ | .deviceAccept => false
  | .engine | .tick | .link _ | .reset => false

/-- A host write of the register `r`. -/
def writesReg (e : Event) (r : Reg) : Bool :=
  match e with
  | .hostWrite a _ => decide (Reg.ofOffset a = some r)
  | .hostRead _ | .hostNarrow _ | .deviceSend _ | .deviceAccept => false
  | .engine | .tick | .link _ | .reset => false

end Sys2Proof.Machine
end

