-- ==== Sys2Proof/Certificates/Slice0/Obligations.lean ====
section
/-! DEFINITION. The statements for the provers, each with the rules of spec/ it formalises. -/

open Sys2Proof Sys2Proof.Machine

/-! ## Encoding (30_encoding.md) -/

/-- R72 to R77, R87: the decoder reads every well-formed instruction back from its encoding, with every operand. -/
def Obligations.DecodeReadsEveryEncoding : Prop :=
  ∀ i : Instr, WellFormed i → decode (encode i).1 (encode i).2 = .ok i

/-- R72 to R77, R87: whatever the decoder accepts is well-formed and is the encoding of what it reads, and no two units of one channel
are one instruction. That no bit is dropped, not even CMD bits 31:4 and CKS_DATA bits 31:8, which the rules have ignored, is the
model's choice of log 14: ignored bits are kept as operands. -/
def Obligations.EncodingIsWhatWasDecoded : Prop :=
  ∀ (ch : Channel) (raw : Raw) (i : Instr), decode ch raw = .ok i → WellFormed i ∧ encode i = (ch, raw)

/-- R72, R74, R75, R77, R87: words written out from the spec's encodings decode to what they stand for. That the ignored bits of
0x00000013 and 0x000001FE show as an operand of the instruction is the model's choice of log 14. -/
def Obligations.SampleWordsDecode : Prop :=
  decode .cmd (.word 0x00000001) = .ok (.readTemps 0) ∧
  decode .cmd (.word 0x00000013) = .ok (.pidCompute 1) ∧
  decode .cmd (.word 0x0000000F) = .ok (.reservedF 0) ∧
  decode .txControl (.bytes [0x12]) = .ok .txSetRequest ∧
  decode .rxReply (.bytes [0x18]) = .ok .estopReserved ∧
  decode .cksData (.word 0x000001FE) = .ok (.cksDataWrite 0xFE 1) ∧
  decode .txFrame (.bytes ([0x00, 0x00, 0x09, 0xC4] ++ (List.replicate 59 0x00 ++ [0xCD]))) = .ok (.elementFrame 2500)

/-! ## Commands (30_encoding.md R73, R79; 41_devicelink.md R92; 42_protocol.md R99, R104; 43_pid.md R108, R109;
45_control_loop.md R124) -/

/-- R79: NOP is accepted in every state and changes nothing. -/
def Obligations.NopChangesNothing : Prop :=
  ∀ (ign : BitVec 28) (s : State), exec (.nop ign) s = .next s

/-- R73: a command other than NOP written while `BUSY = 1` or `LOOP_RUN = 1` changes only `ERR_CAUSE` and `IPR.CMDERR`, whatever its
opcode, reserved ones included. -/
def Obligations.CommandWhileBusyIsRejected : Prop :=
  ∀ (v : Word) (s : State), v.extractLsb' 0 4 ≠ 0 → (busy s = true ∨ s.loopRun = true) →
    exec (decodeCmd v) s = .next { s with
      errCause :=
        { code := .cmdRejected, phase := 0, nak := false, byte := 0, op := v.extractLsb' 0 4, seq := false }
      ipr := s.ipr ||| 0b01000 }

/-- R73, R79: the nine reserved opcodes raise ILLEGAL_CMD and change nothing else. -/
def Obligations.ReservedCommandIsIllegal : Prop :=
  ∀ (ign : BitVec 28) (s : State), CmdFree s →
    ∀ p ∈ [(Instr.reserved7 ign, (0x7 : BitVec 4)), (.reserved8 ign, 0x8), (.reserved9 ign, 0x9), (.reservedA ign, 0xA),
        (.reservedB ign, 0xB), (.reservedC ign, 0xC), (.reservedD ign, 0xD), (.reservedE ign, 0xE), (.reservedF ign, 0xF)],
      exec p.1 s = .next { s with
        errCause := { code := .illegalCmd, phase := 0, nak := false, byte := 0, op := p.2, seq := false }
        ipr := s.ipr ||| 0b01000 }

/-- R73, R131, R134: READ_TEMPS, SET_ELEMENT and CYCLE written with `link_up = 0` record CONNECTION_ERROR, set FAIL and DONE, and take
the effects of `fatal()`; no operation starts. -/
def Obligations.LinkCommandWithoutLinkFails : Prop :=
  ∀ (ign : BitVec 28) (s : State), CmdFree s → s.linkUp = false →
    ∀ p ∈ [(Instr.readTemps ign, (0x1 : BitVec 4), false), (.setElement ign, 0x2, false), (.cycle ign, 0x5, true)],
      exec p.1 s = .next { s with
        errCause := { code := .connectionError, phase := 0, nak := false, byte := 0, op := p.2.1, seq := p.2.2 }
        ipr := s.ipr ||| 0b00011
        fatal := true, session := .deviceError, loopEn := false, loopRun := false, loopPhase := .off }

/-- R73, R96, R99, R104: an accepted READ_TEMPS or SET_ELEMENT starts its handshake, SET_ELEMENT with ON_TIME sampled; nothing else
changes. -/
def Obligations.LinkCommandsStartHandshake : Prop :=
  ∀ (ign : BitVec 28) (s : State), CmdFree s → s.linkUp = true →
    exec (.readTemps ign) s = .next { s with
      hostOp := 0x1, origin := .host
      rxfifo := if s.autoflush then [] else s.rxfifo
      op := .read, idx := 0, acc := 0, fsm := .txEnq, waitStart := s.time, waitBound := s.timeout } ∧
    exec (.setElement ign) s = .next { s with
      hostOp := 0x2, origin := .host, setVal := s.onTime
      rxfifo := if s.autoflush then [] else s.rxfifo
      op := .set, idx := 0, acc := 0, fsm := .txEnq, waitStart := s.time, waitBound := s.timeout }

/-- R73, R108: an accepted PID_COMPUTE snapshots its four operands and enters EXEC, link or no link. -/
def Obligations.PidComputeSnapshotsOperands : Prop :=
  ∀ (ign : BitVec 28) (s : State), CmdFree s →
    exec (.pidCompute ign) s = .next { s with
      hostOp := 0x3, origin := .host
      snapE := s.errIn.toInt, snapKp := s.kp.toInt, snapKi := s.ki.toInt, snapKd := s.kd.toInt, fsm := .exec }

/-- R73, R109, R124: an accepted PID_CLEAR or CYCLE enters EXEC; CYCLE also begins its cycle. -/
def Obligations.PidClearAndCycleEnterExec : Prop :=
  ∀ (ign : BitVec 28) (s : State), CmdFree s →
    exec (.pidClear ign) s = .next { s with hostOp := 0x4, origin := .host, fsm := .exec } ∧
    (s.linkUp = true → exec (.cycle ign) s = .next { s with
      hostOp := 0x5, origin := .cycleCmd, fsm := .exec, cycleStart := s.time, loopPhase := .cycleSet })

/-- R92: FLUSH empties the FIFO and sets DONE, all in its acceptance step. -/
def Obligations.FlushEmptiesFifo : Prop :=
  ∀ (ign : BitVec 28) (s : State), CmdFree s →
    exec (.flush ign) s = .next { s with rxfifo := [], ipr := s.ipr ||| 0b00001, hostOp := 0, origin := .none }

/-! ## Checksum (40_checksum.md) -/

/-- R82: the running form is the sum mod 255. -/
def Obligations.ChecksumIsSumModulo255 : Prop :=
  ∀ bs : List Byte, (cks bs).toNat = byteSum bs % 255

/-- R85: appending the checksum makes a sequence verify. -/
def Obligations.AppendedChecksumVerifies : Prop :=
  ∀ bs : List Byte, verify (bs ++ [cks bs]) = true

/-- R84: range and blind spots. -/
def Obligations.ChecksumBlindSpots : Prop :=
  (∀ bs : List Byte, (cks bs).toNat ≤ 254) ∧
  (∀ (l r : List Byte), cks (l ++ 0xFF :: r) = cks (l ++ 0x00 :: r)) ∧
  (∀ (l r : List Byte) (b c : Byte), b ≠ c →
    (cks (l ++ b :: r) = cks (l ++ c :: r) ↔ (b = 0x00 ∧ c = 0xFF) ∨ (b = 0xFF ∧ c = 0x00))) ∧
  (∀ (l r : List Byte) (b : Byte), b ≠ 0xFF → cks (l ++ (b + 1) :: r) ≠ cks (l ++ b :: r)) ∧
  (∀ (bs cs : List Byte), bs.Perm cs → cks bs = cks cs)

/-- R87, R57: a write to CKS_DATA adds its low byte to CKS_ACC mod 255, one to CKS_ACC clears it, and neither changes anything else, in
every state and whatever the ignored address bits are; the bytes 0x00 and 0xFF leave an accumulator in its range as it is. -/
def Obligations.CksDataWriteAddsByte : Prop :=
  ∀ (byte : Byte) (ign : BitVec 24) (s : State),
    exec (.cksDataWrite byte ign) s =
      .next { s with cksAcc := BitVec.ofNat 8 ((s.cksAcc.toNat + byte.toNat) % 255) } ∧
    (∀ a : BitVec 8, a.toNat / 4 * 4 = 0x74 → turn (.hostWrite a (ign ++ byte)) s =
      .next { s with cksAcc := BitVec.ofNat 8 ((s.cksAcc.toNat + byte.toNat) % 255) }) ∧
    (∀ a : BitVec 8, a.toNat / 4 * 4 = 0x70 → turn (.hostWrite a (ign ++ byte)) s = .next { s with cksAcc := 0 }) ∧
    (s.cksAcc.toNat < 255 → byte = 0x00 ∨ byte = 0xFF →
      BitVec.ofNat 8 ((s.cksAcc.toNat + byte.toNat) % 255) = s.cksAcc)

/-! ## The wire (42_protocol.md) -/

/-- R89, R97: the device's acceptance of 0x05, 0x11 or 0x12 where it is offered puts the byte on the wire and enters the reply state;
nothing else changes. -/
def Obligations.HandshakeByteIsSent : Prop :=
  ∀ s : State,
    (s.fsm = .txEnq → exec .txReady s = .next { s with
      wire := s.wire ++ [0x05], fsm := .rxEnqAck, waitStart := s.time, waitBound := s.timeout }) ∧
    (s.fsm = .txReq → s.op = .read → exec .txTempRequest s = .next { s with
      wire := s.wire ++ [0x11], fsm := .rxReqAck, waitStart := s.time, waitBound := s.timeout }) ∧
    (s.fsm = .txReq → s.op ≠ .read → exec .txSetRequest s = .next { s with
      wire := s.wire ++ [0x12], fsm := .rxReqAck, waitStart := s.time, waitBound := s.timeout })

/-- R98, R102, R119: the device's acceptance of the final 0x06 commits the pending reading, whoever started the read; SESSION leaves
DeviceError if no fatal error pins it; a host read then ends and sets DONE. -/
def Obligations.FinalAcceptCommitsReading : Prop :=
  ∀ s : State, s.fsm = .txFrameAck →
    exec .txAccept s = .next (endLink .ok { s with
      wire := s.wire ++ [0x06]
      envTemp := s.pendEnv, bathTemp := s.pendBath, fresh := true
      session :=
        if s.session = .deviceError ∧ s.fatal = false then (if s.start then .heating else .idle) else s.session }) ∧
    (s.origin = .host → exec .txAccept s = .next { s with
      wire := s.wire ++ [0x06]
      envTemp := s.pendEnv, bathTemp := s.pendBath, fresh := true
      session :=
        if s.session = .deviceError ∧ s.fatal = false then (if s.start then .heating else .idle) else s.session
      op := .none, idx := 0, fsm := .idle, ipr := s.ipr ||| 0b00001, origin := .none, hostOp := 0 })

/-- R97: the reply 0x06 moves the handshake on: to the request, to the frame of a read, to the frame of a set (R104), or to the end of
a set, which for a host set is the end of the command (R98). Only the byte leaves the FIFO. -/
def Obligations.AcceptReplyMovesOn : Prop :=
  ∀ (s : State) (rest : List Byte), s.rxfifo = 0x06 :: rest →
    (s.fsm = .rxEnqAck → exec .rxAccept s = .next { s with
      rxfifo := rest, fsm := .txReq, waitStart := s.time, waitBound := s.timeout }) ∧
    (s.fsm = .rxReqAck → s.op = .read → exec .rxAccept s = .next { s with
      rxfifo := rest, idx := 0, acc := 0, collected := [], fsm := .rxFrame, waitStart := s.time, waitBound := s.timeout }) ∧
    (s.fsm = .rxReqAck → s.op ≠ .read → exec .rxAccept s = .next { s with
      rxfifo := rest
      eframe := elementVector s.setVal, acc := cks (bytes32 s.setVal), lastOnTime := s.setVal
      cksDiag :=
        { computed := cks (bytes32 s.setVal), trailer := cks (bytes32 s.setVal), matched := true, dir := true, valid := true }
      fsm := .txFrame, waitStart := s.time, waitBound := s.timeout }) ∧
    (s.fsm = .rxFrameAck → exec .rxAccept s = .next (endLink .ok { s with rxfifo := rest })) ∧
    (s.fsm = .rxFrameAck → s.origin = .host → exec .rxAccept s = .next { s with
      rxfifo := rest, op := .none, idx := 0, fsm := .idle, ipr := s.ipr ||| 0b00001, origin := .none, hostOp := 0 })

/-- R75, R97, R130, R131: every other reply ends the operation with HANDSHAKE_DENIED: what ERR_CAUSE records, which IPR bits are set,
and what `fatal()` does; nothing else changes but the byte taken. That OP is 0 where no operation is in flight is the model's reading of
log 12. The term `rxOtherReply 0x06`, which is not well-formed and which no decoding gives, is covered with the others. -/
def Obligations.DeniedReplyEndsOperation : Prop :=
  ∀ (s : State) (b : Byte) (rest : List Byte), s.fsm.replying = true → s.rxfifo = b :: rest →
    ∀ i : Instr, (i = .rxDeny ∧ b = 0x15) ∨ (i = .estopReserved ∧ b = 0x18) ∨ i = .rxOtherReply b →
      exec i s = .next { s with
        rxfifo := rest, fsm := .idle, op := .none, idx := 0, origin := .none, hostOp := 0
        errCause :=
          { code := .handshakeDenied
            phase := if s.fsm = .rxEnqAck then 1 else if s.fsm = .rxReqAck then 2 else 3
            nak := decide (b = 0x15), byte := b
            op := if s.op = .read then 1 else if s.op = .set then 2 else 0
            seq := decide (s.origin ≠ .host) }
        ipr := s.ipr ||| (if s.origin = .host ∨ s.origin = .cycleCmd then 0b00011 else 0b00010)
        fatal := true, session := .deviceError, loopEn := false, loopRun := false, loopPhase := .off }

/-- R89, R97, and the model's choice of log 3: where a control byte is not what the port offers, a reply is not the byte the engine
awaits, or a frame is not the one the next step completes (log 13), the step is not enabled and nothing changes. -/
def Obligations.WireInstructionElsewhereIsIdle : Prop :=
  ∀ (s : State),
    (s.fsm ≠ .txEnq → exec .txReady s = .next s) ∧
    (s.fsm ≠ .txReq ∨ s.op ≠ .read → exec .txTempRequest s = .next s) ∧
    (s.fsm ≠ .txReq ∨ s.op = .read → exec .txSetRequest s = .next s) ∧
    (s.fsm ≠ .txFrameAck → exec .txAccept s = .next s) ∧
    (∀ ms, s.fsm ≠ .txFrame ∨ s.idx ≠ 63 ∨ s.eframe ≠ elementVector ms → exec (.elementFrame ms) s = .next s) ∧
    (∀ env bath unused trailer,
      s.fsm ≠ .rxFrame ∨ s.idx ≠ 63 ∨ s.rxfifo.head? ≠ some trailer ∨ s.collected ≠ tempBody env bath unused →
      exec (.tempFrame env bath unused trailer) s = .next s) ∧
    (∀ b, s.fsm.replying = false ∨ s.rxfifo.head? ≠ some b →
      (b = 0x06 → exec .rxAccept s = .next s) ∧ (b = 0x15 → exec .rxDeny s = .next s) ∧
      (b = 0x18 → exec .estopReserved s = .next s) ∧ exec (.rxOtherReply b) s = .next s)

/-- R76, R100, R101, R103: the step that takes the last byte of a temperature frame, the step at which the model decodes the frame
(log 13): a trailer that is the checksum of bytes 0 to 62 leaves the reading pending and the final 0x06 on offer. -/
def Obligations.GoodTempFrameLeavesReadingPending : Prop :=
  ∀ (env bath : Half) (unused rest : List Byte) (s : State), unused.length = 59 → FrameCollected env bath unused s →
    let c := cks (bytes16 env ++ (bytes16 bath ++ unused))
    s.rxfifo = c :: rest →
    exec (.tempFrame env bath unused c) s = .next { s with
      rxfifo := rest, pendEnv := env, pendBath := bath, trailer := c
      collected := bytes16 env ++ (bytes16 bath ++ (unused ++ [c]))
      cksDiag := { computed := c, trailer := c, matched := true, dir := false, valid := true }
      idx := 64, fsm := .txFrameAck, waitStart := s.time, waitBound := s.timeout }

/-- R76, R101, R103: the step that takes the last byte of a temperature frame, the step at which the model decodes the frame (log 13):
any other trailer is stale: the temperatures stay, FRESH clears, the session is DeviceError, no byte is sent, and the mismatch is
recorded without being fatal, whoever started the read; a host read then ends with STALE and DONE. -/
def Obligations.BadTempFrameIsStale : Prop :=
  ∀ (env bath : Half) (unused rest : List Byte) (trailer : Byte) (s : State),
    unused.length = 59 → FrameCollected env bath unused s → s.rxfifo = trailer :: rest →
    trailer ≠ cks (bytes16 env ++ (bytes16 bath ++ unused)) →
    ∃ t, t = { s with
        rxfifo := rest, fresh := false, session := .deviceError, trailer := trailer
        collected := bytes16 env ++ (bytes16 bath ++ (unused ++ [trailer]))
        cksDiag :=
          { computed := cks (bytes16 env ++ (bytes16 bath ++ unused)), trailer := trailer
            matched := false, dir := false, valid := true }
        errCause :=
          { code := .checksumMismatch, phase := 4, nak := false, byte := trailer, op := 1, seq := decide (s.origin ≠ .host) }
        ipr := s.ipr ||| 0b00100, idx := 64 } ∧
      exec (.tempFrame env bath unused trailer) s = .next (endLink .stale t) ∧
      (s.origin = .host → exec (.tempFrame env bath unused trailer) s = .next { t with
        ipr := s.ipr ||| 0b00101, op := .none, idx := 0, fsm := .idle, origin := .none, hostOp := 0 })

/-- R90, R8: an arriving byte joins the FIFO where there is room, in every state of the engine; else it is dropped and RX_OVF is set.
The depth is the parameter of log 8, of which nothing is known but that it is at least 65. -/
def Obligations.ArrivalJoinsFifoOrIsDropped : Prop :=
  65 ≤ Config.rxfDepth ∧ ∀ (b : Byte) (s : State),
    (s.rxfifo.length < Config.rxfDepth → turn (.deviceSend b) s = .next { s with rxfifo := s.rxfifo ++ [b] }) ∧
    (Config.rxfDepth ≤ s.rxfifo.length → turn (.deviceSend b) s = .next { s with rxOvf := true })

/-- R90, R80: the 64 arrivals of a temperature frame with no engine step between are 64 bytes in the FIFO, in order, where there is
room below the depth of log 8, whatever the engine stands in; and no arrival is decoded. -/
def Obligations.UnawaitedFrameStaysInFifo : Prop :=
  (∀ (env bath : Half) (unused : List Byte) (trailer : Byte) (s : State),
    unused.length = 59 → s.rxfifo.length + 64 ≤ Config.rxfDepth → s.pending = [] →
    Sys2Proof.core.run 64 { s with pending := (tempBytes env bath unused trailer).map Event.deviceSend } =
      .next { s with rxfifo := s.rxfifo ++ tempBytes env bath unused trailer }) ∧
  ∀ (b : Byte) (s : State), fetch (.deviceSend b) s = none

/-- R77, R97: the device's acceptance of the last byte of an element frame, the step at which the model decodes the frame (log 13),
sends the checksum and awaits the reply; and 64 acceptances from the start of the frame put its 64 bytes on the wire in order. -/
def Obligations.ElementFrameIsSentWhole : Prop :=
  ∀ (ms : Word) (s : State), s.fsm = .txFrame → s.eframe = elementVector ms →
    (s.idx = 63 → exec (.elementFrame ms) s = .next { s with
      wire := s.wire ++ [cks (bytes32 ms)], idx := 64
      fsm := .rxFrameAck, waitStart := s.time, waitBound := s.timeout }) ∧
    (s.idx = 0 → s.pending = [] →
      Sys2Proof.core.run 64 { s with pending := List.replicate 64 Event.deviceAccept } = .next { s with
        wire := s.wire ++ elementBytes ms, idx := 64
        fsm := .rxFrameAck, waitStart := s.time, waitBound := s.timeout })

/-- R77: the element frame of every on-time: four big-endian bytes, 59 zero bytes, and the checksum of the four bytes, which is also
the checksum of the first 63. -/
def Obligations.ElementFrameLayout : Prop :=
  ∀ ms : Word,
    elementBytes ms =
      [ms.extractLsb' 24 8, ms.extractLsb' 16 8, ms.extractLsb' 8 8, ms.extractLsb' 0 8] ++
        (List.replicate 59 0x00 ++
          [BitVec.ofNat 8 (((ms.extractLsb' 24 8).toNat + (ms.extractLsb' 16 8).toNat + (ms.extractLsb' 8 8).toNat +
            (ms.extractLsb' 0 8).toNat) % 255)]) ∧
    verify (elementBytes ms) = true

/-- R90, R97, R100 and log 13: from the start of a frame its single steps, each of which moves one byte, lead to the instruction of
the frame: a temperature frame that arrives byte by byte, one that waits in the FIFO whole, and an element frame. -/
def Obligations.FramesAreTheirSingleSteps : Prop :=
  (∀ (env bath : Half) (unused : List Byte) (trailer : Byte) (s : State),
    unused.length = 59 → s.fsm = .rxFrame → s.idx = 0 → s.acc = 0 → s.collected = [] → s.rxfifo = [] → s.pending = [] →
    ∃ u, FrameCollected env bath unused u ∧
      u = { s with
        idx := 63, acc := u.acc, pay := u.pay, collected := u.collected, rxfifo := [trailer] } ∧
      Sys2Proof.core.run 128 { s with
        pending := (tempBytes env bath unused trailer).flatMap fun b => [Event.deviceSend b, Event.engine] } =
        exec (.tempFrame env bath unused trailer) u) ∧
  (∀ (env bath : Half) (unused rest : List Byte) (trailer : Byte) (s : State),
    unused.length = 59 → s.fsm = .rxFrame → s.idx = 0 → s.acc = 0 → s.collected = [] →
    s.rxfifo = tempBytes env bath unused trailer ++ rest → s.pending = [] →
    ∃ u, FrameCollected env bath unused u ∧
      u = { s with
        idx := 63, acc := u.acc, pay := u.pay, collected := u.collected, rxfifo := trailer :: rest } ∧
      Sys2Proof.core.run 64 { s with pending := List.replicate 64 Event.engine } =
        exec (.tempFrame env bath unused trailer) u) ∧
  (∀ (ms : Word) (s : State), s.fsm = .txFrame → s.idx = 0 → s.eframe = elementVector ms → s.pending = [] →
    Sys2Proof.core.run 64 { s with pending := List.replicate 64 Event.deviceAccept } =
      exec (.elementFrame ms) { s with idx := 63, wire := s.wire ++ (elementBytes ms).take 63 })

/-! ## PID and datapath (43_pid.md, 44_thermal.md) -/

/-- R106 in the EXEC step of R108: the six steps over exact integers, saturated at 64 and 32 bits; then the command ends. -/
def Obligations.PidComputeFollowsSixSteps : Prop :=
  ∀ (s : State) (rest : List Event), s.pending = .engine :: rest → s.fsm = .exec → s.origin = .host → s.hostOp = 0x3 →
    let dt : Int := ((s.time - s.prevTime).toNat : Int)
    let de : Int := s.snapE - s.prevErr.toInt
    let ciSum : Int := s.ci.toInt + s.snapE * dt
    let ci : Int := max (-2 ^ 63) (min (2 ^ 63 - 1) ciSum)
    let d : Int := if dt > 0 then (de * 2 ^ 16).tdiv dt else 0
    let q : Int := (s.snapKp * s.snapE * 2 ^ 16 + s.snapKi * ci + s.snapKd * d * 2 ^ 16) / 2 ^ 32
    let out : Int := max (-2 ^ 31) (min (2 ^ 31 - 1) q)
    step s = .next { s with
      pending := rest
      ci := BitVec.ofInt 64 ci, pidOut := BitVec.ofInt 32 out
      prevErr := BitVec.ofInt 32 s.snapE, prevTime := s.time
      pidSat := s.pidSat || decide (ci ≠ ciSum ∨ out ≠ q)
      fsm := .idle, ipr := s.ipr ||| 0b00001, origin := .none, hostOp := 0 }

/-- R109: the EXEC step of PID_CLEAR: integral and previous error 0, previous time now; gains, output and PID_SAT stay. -/
def Obligations.PidClearClearsRunningState : Prop :=
  ∀ (s : State) (rest : List Event), s.pending = .engine :: rest → s.fsm = .exec → s.origin = .host → s.hostOp = 0x4 →
    step s = .next { s with
      pending := rest, ci := 0, prevErr := 0, prevTime := s.time
      fsm := .idle, ipr := s.ipr ||| 0b00001, origin := .none, hostOp := 0 }

/-- R111: with `Kp = 1`, `Ki = Kd = 0` the output is the error, from every PID state and at every time, call after call. -/
def Obligations.PureProportionalPidReturnsError : Prop :=
  ∀ (s : State) (e later : Word),
    (pidStep e.toInt 65536 0 0 s).pidOut = e ∧
    (pidStep e.toInt 65536 0 0 { pidStep e.toInt 65536 0 0 s with time := later }).pidOut = e

/-- R107: with operands in the signed 32-bit range `dt` fits 32 bits unsigned, `de` 33, `e * dt` 64, `ci_sum` 65, `d` 49, the
derivative term 96 and the sum 98 bits signed. For `p` and `ki * ci` R107 gives 79 and 95 bits, which both products leave by one
where both factors are at their most negative: the bounds stated here for these two include that value. -/
def Obligations.PidIntermediatesFit : Prop :=
  ∀ (e kp ki kd : Int) (s : State), inS32 e → inS32 kp → inS32 ki → inS32 kd →
    (0 ≤ pidDt s ∧ pidDt s < 2 ^ 32) ∧
    (-2 ^ 32 < pidDe e s ∧ pidDe e s < 2 ^ 32) ∧
    (-2 ^ 63 ≤ e * pidDt s ∧ e * pidDt s < 2 ^ 63) ∧
    (-2 ^ 64 ≤ pidCiSum e s ∧ pidCiSum e s < 2 ^ 64) ∧
    (-2 ^ 48 ≤ pidD e s ∧ pidD e s < 2 ^ 48) ∧
    (-2 ^ 78 < kp * e * 2 ^ 16 ∧ kp * e * 2 ^ 16 ≤ 2 ^ 78) ∧
    (-2 ^ 94 < ki * pidCi e s ∧ ki * pidCi e s ≤ 2 ^ 94) ∧
    (-2 ^ 95 ≤ kd * pidD e s * 2 ^ 16 ∧ kd * pidD e s * 2 ^ 16 < 2 ^ 95) ∧
    (-2 ^ 97 ≤ pidSum e kp ki kd s ∧ pidSum e kp ki kd s < 2 ^ 97)

/-- R115: the deficit is the exact product saturated at 32 bits, PID_SAT records saturation, and the sign of the product is kept. -/
def Obligations.DeficitSaturatesKeepingSign : Prop :=
  ∀ s : State,
    let exact : Int := s.ecoef.toInt * ((s.target.toNat : Int) - (s.bathTemp.toNat : Int))
    let clipped : Int := max (-2 ^ 31) (min (2 ^ 31 - 1) exact)
    deficitStep s = { s with deficit := BitVec.ofInt 32 clipped, pidSat := s.pidSat || decide (clipped ≠ exact) } ∧
    (deficitStep s).deficit.toInt = clipped ∧ (clipped > 0 ↔ exact > 0)

/-- R116, R125: no actuation at or below 0, exactly 10000 ms above the clamp, else the exact product rounded down, within 1 ms. -/
def Obligations.OnTimeIsClamped : Prop :=
  ∀ out mscoef : Word,
    let msX : Int := out.toInt * mscoef.toInt
    (msX ≤ 0 → onTimeStep out mscoef = none) ∧
    (msX > 10000 * 2 ^ 32 → onTimeStep out mscoef = some 10000) ∧
    (0 < msX → msX ≤ 10000 * 2 ^ 32 → ∃ ms : Word, onTimeStep out mscoef = some ms ∧ ms.toNat ≤ 10000 ∧
      (ms.toNat : Int) * 2 ^ 32 ≤ msX ∧ msX < ((ms.toNat : Int) + 1) * 2 ^ 32)

/-! ## Session and loop (45_control_loop.md) -/

/-- R119: what the first statement of a cycle's EXEC step does to the session, case by case. -/
def Obligations.SessionAtCycleStartCases : Prop :=
  ∀ s : State,
    (s.fatal = true → sessionAtCycleStart s = { s with heatEntry := false }) ∧
    (s.fatal = false → s.session = .idle → s.start = true → s.fresh = true → s.pidAutoclr = false →
      sessionAtCycleStart s = { s with session := .heating, heatEntry := true }) ∧
    (s.fatal = false → s.session = .idle → s.start = true → s.fresh = true → s.pidAutoclr = true →
      sessionAtCycleStart s =
        { s with session := .heating, heatEntry := true, ci := 0, prevErr := 0, prevTime := s.time }) ∧
    (s.fatal = false → s.session = .heating → s.start = false →
      sessionAtCycleStart s = { s with heatEntry := false, session := .idle }) ∧
    (s.fatal = false → s.session = .idle → (s.start = false ∨ s.fresh = false) →
      sessionAtCycleStart s = { s with heatEntry := false }) ∧
    (s.fatal = false → s.session = .heating → s.start = true → sessionAtCycleStart s = { s with heatEntry := false }) ∧
    (s.session = .deviceError → sessionAtCycleStart s = { s with heatEntry := false })

/-- R121, R115: the EXEC step of a cycle with the link up: not heating, or no deficit, goes straight to the read and runs no PID step;
a heating cycle writes its deficit even so. -/
def Obligations.CycleWithoutDeficitOnlyReads : Prop :=
  ∀ (s : State) (rest : List Event), s.pending = .engine :: rest → s.fsm = .exec →
    (s.origin = .cycleCmd ∨ s.origin = .loop) → s.linkUp = true →
    ((sessionAtCycleStart s).session ≠ .heating ∨ deficitValue (sessionAtCycleStart s) ≤ 0) →
    ∃ t, step s = .next t ∧ t.fsm = .txEnq ∧ t.op = .read ∧ t.loopPhase = .cycleRead ∧ t.setVal = s.setVal ∧
      t.session = (sessionAtCycleStart s).session ∧ t.pidOut = s.pidOut ∧ t.ci = (sessionAtCycleStart s).ci ∧
      t.prevErr = (sessionAtCycleStart s).prevErr ∧ t.prevTime = (sessionAtCycleStart s).prevTime ∧ t.wire = s.wire ∧
      ((sessionAtCycleStart s).session ≠ .heating → t.deficit = s.deficit ∧ t.pidSat = s.pidSat) ∧
      ((sessionAtCycleStart s).session = .heating →
        t.deficit = BitVec.ofInt 32 (deficitValue (sessionAtCycleStart s)) ∧
        t.pidSat = (s.pidSat || decide (deficitValue (sessionAtCycleStart s) ≠ deficitExact (sessionAtCycleStart s))))

/-- R121, R116, R125: the EXEC step of a heating cycle with a positive deficit and the link up: the PID step runs on the deficit, and
the product of its output and MSCOEF decides: a set with the clamped on-time, or straight to the read. -/
def Obligations.HeatingCycleActuatesOnOutput : Prop :=
  ∀ (s : State) (rest : List Event), s.pending = .engine :: rest → s.fsm = .exec →
    (s.origin = .cycleCmd ∨ s.origin = .loop) → s.linkUp = true →
    (sessionAtCycleStart s).session = .heating → deficitValue (sessionAtCycleStart s) > 0 →
    ∃ t, step s = .next t ∧ t.fsm = .txEnq ∧ t.session = .heating ∧
      t.deficit = BitVec.ofInt 32 (deficitValue (sessionAtCycleStart s)) ∧ t.prevErr = t.deficit ∧ t.prevTime = s.time ∧
      t.pidOut = (pidStep (deficitValue (sessionAtCycleStart s)) s.kp.toInt s.ki.toInt s.kd.toInt (sessionAtCycleStart s)).pidOut ∧
      t.ci = (pidStep (deficitValue (sessionAtCycleStart s)) s.kp.toInt s.ki.toInt s.kd.toInt (sessionAtCycleStart s)).ci ∧
      t.pidSat = (pidStep (deficitValue (sessionAtCycleStart s)) s.kp.toInt s.ki.toInt s.kd.toInt
        (deficitStep (sessionAtCycleStart s))).pidSat ∧
      t.onTime = s.onTime ∧ t.errIn = s.errIn ∧ t.lastOnTime = s.lastOnTime ∧
      (t.pidOut.toInt * s.mscoef.toInt ≤ 0 → t.op = .read ∧ t.loopPhase = .cycleRead) ∧
      (t.pidOut.toInt * s.mscoef.toInt > 0 → t.op = .set ∧ t.loopPhase = s.loopPhase ∧
        onTimeStep t.pidOut s.mscoef = some t.setVal ∧ t.setVal.toNat ≤ 10000)

/-- R121, R130, R131, R132: the EXEC step of a cycle with the link down fails with CONNECTION_ERROR, which ends the cycle and performs
nothing else: the PID state, PID_OUT, DEFICIT, PID_SAT and `set_val` of the step's computation are not written. ERR_CAUSE.OP names the
operation that the computation would have started, which is log 19's reading of R121. -/
def Obligations.CycleWithoutLinkFails : Prop :=
  ∀ (s : State) (rest : List Event), s.pending = .engine :: rest → s.fsm = .exec → s.op = .none →
    (s.origin = .cycleCmd ∨ s.origin = .loop) → s.linkUp = false →
    step s = .next { s with
      pending := rest, fsm := .idle, op := .none, idx := 0, origin := .none, hostOp := 0, loopPhase := .off
      errCause :=
        { code := .connectionError, phase := 0, nak := false, byte := 0
          op := if (controlCompute (sessionAtCycleStart s)).2 = none then 1 else 2, seq := true }
      ipr := s.ipr ||| (if s.origin = .cycleCmd then 0b00011 else 0b00010)
      fatal := true, session := .deviceError, loopEn := false, loopRun := false }

/-- R122, R131: the loop starts from IDLE iff LOOP_EN is 1, no fatal error stands and it does not run, and its first operation is a
read; with the link down it records CONNECTION_ERROR and stops for good. That the engine's step changes nothing where the start is
not enabled is the model's choice of log 3. -/
def Obligations.LoopStartReadsFirst : Prop :=
  ∀ (s : State) (rest : List Event), s.pending = .engine :: rest → s.fsm = .idle → s.op = .none →
    (¬ (s.loopEn = true ∧ s.fatal = false ∧ s.loopRun = false) → step s = .next { s with pending := rest }) ∧
    (s.loopEn = true → s.fatal = false → s.loopRun = false → s.linkUp = true → step s = .next { s with
      pending := rest, loopRun := true, origin := .loop, hostOp := 0, loopPhase := .initRead
      rxfifo := if s.autoflush then [] else s.rxfifo
      op := .read, idx := 0, acc := 0, fsm := .txEnq, waitStart := s.time, waitBound := s.timeout }) ∧
    (s.loopEn = true → s.fatal = false → s.loopRun = false → s.linkUp = false → step s = .next { s with
      pending := rest, loopRun := false, loopEn := false, origin := .none, hostOp := 0, loopPhase := .off, idx := 0
      errCause := { code := .connectionError, phase := 0, nak := false, byte := 0, op := 1, seq := true }
      ipr := s.ipr ||| 0b00010, fatal := true, session := .deviceError })

/-- R98, R122: the end of a link operation the sequencer or a CYCLE command started, phase by phase. -/
def Obligations.SequencerContinues : Prop :=
  ∀ (s : State) (r : LinkResult), s.origin ≠ .host →
    (s.loopPhase = .initRead → s.loopEn = true → endLink r s = { s with
      op := .none, idx := 0, cycleStart := s.time, loopPhase := .cycleSet, fsm := .exec }) ∧
    (s.loopPhase = .initRead → s.loopEn = false → endLink r s = { s with
      op := .none, idx := 0, loopRun := false, loopPhase := .off, fsm := .idle, origin := .none }) ∧
    (s.loopPhase = .cycleSet → s.linkUp = true → endLink r s = { s with
      loopPhase := .cycleRead, rxfifo := if s.autoflush then [] else s.rxfifo
      op := .read, idx := 0, acc := 0, fsm := .txEnq, waitStart := s.time, waitBound := s.timeout }) ∧
    (s.loopPhase = .cycleSet → s.linkUp = false → endLink r s = { s with
      op := .none, idx := 0, fsm := .idle, origin := .none, hostOp := 0, loopPhase := .off
      errCause := { code := .connectionError, phase := 0, nak := false, byte := 0, op := 1, seq := true }
      ipr := s.ipr ||| (if s.origin = .cycleCmd then 0b00011 else 0b00010)
      fatal := true, session := .deviceError, loopEn := false, loopRun := false }) ∧
    (s.loopPhase = .cycleRead → s.origin = .cycleCmd → endLink r s = { s with
      op := .none, idx := 0, ipr := s.ipr ||| 0b10001, fsm := .idle, loopPhase := .off, origin := .none, hostOp := 0 }) ∧
    (s.loopPhase = .cycleRead → s.origin ≠ .cycleCmd → endLink r s = { s with
      op := .none, idx := 0, ipr := s.ipr ||| 0b10000, loopPhase := .wait, fsm := .loopWait })

/-- R123: in LOOP_WAIT a cleared LOOP_EN stops the loop, an elapsed period begins a cycle, and otherwise no step is
enabled, which the model takes as a step that changes nothing (log 3). -/
def Obligations.LoopWaitStep : Prop :=
  ∀ (s : State) (rest : List Event), s.pending = .engine :: rest → s.fsm = .loopWait →
    (s.loopEn = false → step s = .next { s with
      pending := rest, loopRun := false, loopPhase := .off, fsm := .idle, origin := .none }) ∧
    (s.loopEn = true → s.cyclePeriod.toNat ≤ (s.time - s.cycleStart).toNat → step s = .next { s with
      pending := rest, cycleStart := s.time, loopPhase := .cycleSet, fsm := .exec }) ∧
    (s.loopEn = true → (s.time - s.cycleStart).toNat < s.cyclePeriod.toNat → step s = .next { s with pending := rest })

/-! ## Errors and interrupts (60_exceptions.md, 41_devicelink.md R94) -/

/-- R129: what recording an error writes, code by code. -/
def Obligations.RecordErrorOverwritesCause : Prop :=
  ∀ (code : ErrCode) (phase : BitVec 3) (byte : Byte) (op : BitVec 4) (seq : Bool) (s : State),
    let record : ErrCause :=
      { code := code, phase := phase, nak := decide (code = .handshakeDenied ∧ byte = 0x15), byte := byte, op := op, seq := seq }
    (code.isFatal = true → recordError code phase byte op seq s = { s with
      errCause := record, ipr := s.ipr ||| 0b00010
      fatal := true, session := .deviceError, loopEn := false, loopRun := false, loopPhase := .off }) ∧
    (code = .illegalCmd ∨ code = .cmdRejected → recordError code phase byte op seq s = { s with
      errCause := record, ipr := s.ipr ||| 0b01000 }) ∧
    (code = .checksumMismatch → recordError code phase byte op seq s = { s with errCause := record })

/-- R94, R130: in a waiting state a wait that reached its bound, with no byte there to decode in a receiving state, raises TIMEOUT with
the phase of the state (OP 0 where no operation is in flight is log 12); before the bound, or with a bound of 0, no step is enabled
where no byte is there, which the model takes as a step that changes nothing (log 3). -/
def Obligations.TimeoutEndsWait : Prop :=
  ∀ (s : State) (rest : List Event), s.pending = .engine :: rest → (s.fsm.sending = true ∨ s.fsm.receiving = true) →
    (s.fsm.receiving = true → s.rxfifo = []) →
    (s.waitBound ≠ 0 → s.waitBound.toNat ≤ (s.time - s.waitStart).toNat → step s = .next { s with
      pending := rest, fsm := .idle, op := .none, idx := 0, origin := .none, hostOp := 0
      errCause :=
        { code := .timeout
          phase :=
            if s.fsm = .rxEnqAck then 1 else if s.fsm = .rxReqAck then 2 else if s.fsm = .rxFrameAck then 3
            else if s.fsm = .rxFrame then 4 else 5
          nak := false, byte := 0
          op := if s.op = .read then 1 else if s.op = .set then 2 else 0
          seq := decide (s.origin ≠ .host) }
      ipr := s.ipr ||| (if s.origin = .host ∨ s.origin = .cycleCmd then 0b00011 else 0b00010)
      fatal := true, session := .deviceError, loopEn := false, loopRun := false, loopPhase := .off }) ∧
    (s.waitBound = 0 ∨ (s.time - s.waitStart).toNat < s.waitBound.toNat → step s = .next { s with pending := rest })

/-- R131: while FATAL stands no step but the host's write of 1 to it (and a reset) moves SESSION out of DeviceError, starts the loop
or sets LOOP_EN. -/
def Obligations.FatalErrorPinsSession : Prop :=
  ∀ (e : Event) (s t : State), Machine.Inv s → s.fatal = true → clearsFatal e = false → e ≠ .reset → turn e s = .next t →
    t.fatal = true ∧ t.session = .deviceError ∧ t.loopEn = false ∧ t.loopRun = false

/-! ## The register window (10_state.md, 20_memory.md) -/

/-- R57, R62, R47, R23 to R46: a host read returns the register at `a[7:2]`, 0 at a reserved offset, and has no side effect; and the
word it returns, offset by offset and field by field (STATUS, offset 0x08, in StatusFieldsAndIrq). -/
def Obligations.HostReadHasNoSideEffect : Prop :=
  ∀ s : State,
    (∀ a : BitVec 8,
      turn (.hostRead a) s = .next { s with busRdata := windowRead a s } ∧
      windowRead a s = windowRead (a &&& 0xFC) s ∧
      (0x78 ≤ a.toNat → windowRead a s = 0)) ∧
    windowRead 0x00 s = 0x50425345 ∧
    ((windowRead 0x04 s).getLsbD 0 = s.start ∧ (windowRead 0x04 s).getLsbD 1 = s.loopEn ∧
      (windowRead 0x04 s).getLsbD 2 = s.autoflush ∧ (windowRead 0x04 s).getLsbD 3 = s.pidAutoclr ∧
      (windowRead 0x04 s).extractLsb' 4 28 = 0) ∧
    windowRead 0x08 s = statusWord s ∧ windowRead 0x0C s = 0 ∧
    ((windowRead 0x10 s).extractLsb' 0 4 = (match s.errCause.code with
        | .none => 0 | .handshakeDenied => 1 | .checksumMismatch => 2 | .timeout => 3 | .connectionError => 4
        | .illegalCmd => 5 | .cmdRejected => 6) ∧
      (windowRead 0x10 s).extractLsb' 4 3 = s.errCause.phase ∧ (windowRead 0x10 s).getLsbD 7 = s.errCause.nak ∧
      (windowRead 0x10 s).extractLsb' 8 8 = s.errCause.byte ∧ (windowRead 0x10 s).extractLsb' 16 4 = s.errCause.op ∧
      (windowRead 0x10 s).getLsbD 20 = s.errCause.seq ∧ (windowRead 0x10 s).extractLsb' 21 11 = 0) ∧
    (windowRead 0x14 s).toNat = s.ier.toNat ∧ (windowRead 0x18 s).toNat = s.ipr.toNat ∧
    windowRead 0x1C s = s.timeout ∧ windowRead 0x20 s = s.time ∧
    (windowRead 0x24 s).toNat = s.envTemp.toNat ∧ (windowRead 0x28 s).toNat = s.bathTemp.toNat ∧
    (windowRead 0x2C s).toNat = s.target.toNat ∧
    windowRead 0x30 s = s.onTime ∧ windowRead 0x34 s = s.kp ∧ windowRead 0x38 s = s.ki ∧ windowRead 0x3C s = s.kd ∧
    windowRead 0x40 s = s.errIn ∧ windowRead 0x44 s = s.pidOut ∧
    windowRead 0x48 s = s.ci.extractLsb' 0 32 ∧ windowRead 0x4C s = s.ci.extractLsb' 32 32 ∧
    windowRead 0x50 s = s.prevErr ∧ windowRead 0x54 s = s.prevTime ∧ windowRead 0x58 s = s.ecoef ∧
    windowRead 0x5C s = s.mscoef ∧ windowRead 0x60 s = s.deficit ∧ windowRead 0x64 s = s.lastOnTime ∧
    windowRead 0x68 s = s.cyclePeriod ∧
    ((windowRead 0x6C s).extractLsb' 0 8 = s.cksDiag.computed ∧ (windowRead 0x6C s).extractLsb' 8 8 = s.cksDiag.trailer ∧
      (windowRead 0x6C s).getLsbD 16 = s.cksDiag.matched ∧ (windowRead 0x6C s).getLsbD 17 = s.cksDiag.dir ∧
      (windowRead 0x6C s).getLsbD 18 = s.cksDiag.valid ∧ (windowRead 0x6C s).extractLsb' 19 13 = 0) ∧
    (windowRead 0x70 s).toNat = s.cksAcc.toNat ∧ windowRead 0x74 s = 0

/-- R18, R20, R21, R25, R134: the fields of STATUS as the host reads them, and when `irq` is 1. -/
def Obligations.StatusFieldsAndIrq : Prop :=
  ∀ s : State,
    ((statusWord s).getLsbD 0 = true ↔ s.fsm ≠ .idle ∧ s.fsm ≠ .loopWait) ∧
    (statusWord s).extractLsb' 1 2 = (match s.session with | .idle => 0 | .heating => 1 | .deviceError => 2) ∧
    (statusWord s).getLsbD 3 = s.fresh ∧
    ((statusWord s).getLsbD 4 = true ↔ s.fresh = true ∧ s.target.toNat ≤ s.bathTemp.toNat) ∧
    (statusWord s).getLsbD 5 = s.loopRun ∧ (statusWord s).getLsbD 6 = s.fatal ∧
    (statusWord s).getLsbD 7 = s.pidSat ∧ (statusWord s).getLsbD 8 = s.rxOvf ∧
    (statusWord s).extractLsb' 9 3 = 0 ∧
    (statusWord s).extractLsb' 12 4 = (match s.fsm with
      | .idle => 0 | .txEnq => 1 | .rxEnqAck => 2 | .txReq => 3 | .rxReqAck => 4 | .rxFrame => 5 | .txFrameAck => 6
      | .txFrame => 7 | .rxFrameAck => 8 | .exec => 9 | .loopWait => 10) ∧
    ((statusWord s).extractLsb' 16 8).toNat = min s.rxfifo.length 255 ∧ (statusWord s).extractLsb' 24 8 = 0 ∧
    (irq s = true ↔ ∃ i, i < 5 ∧ s.ipr.getLsbD i = true ∧ s.ier.getLsbD i = true)

/-- R24, R25, R27, R29, R45, R119: host writes of the control register and of the registers that a write clears, whatever the address
bits 1:0, which R57 ignores. -/
def Obligations.ControlAndClearingWrites : Prop :=
  ∀ (a : BitVec 8) (v : Word) (s : State),
    (a.toNat / 4 * 4 = 0x04 → turn (.hostWrite a v) s = .next { s with
      start := v.getLsbD 0, loopEn := v.getLsbD 1 && !s.fatal, autoflush := v.getLsbD 2, pidAutoclr := v.getLsbD 3 }) ∧
    (a.toNat / 4 * 4 = 0x08 → turn (.hostWrite a v) s = .next { s with
      fatal := s.fatal && !v.getLsbD 6, pidSat := s.pidSat && !v.getLsbD 7, rxOvf := s.rxOvf && !v.getLsbD 8
      session := if v.getLsbD 6 = true ∧ s.session = .deviceError then .idle else s.session }) ∧
    (a.toNat / 4 * 4 = 0x10 → turn (.hostWrite a v) s = .next { s with
      errCause := { code := .none, phase := 0, nak := false, byte := 0, op := 0, seq := false } }) ∧
    (a.toNat / 4 * 4 = 0x18 → ∃ t, turn (.hostWrite a v) s = .next t ∧ t = { s with ipr := t.ipr } ∧
      ∀ i, i < 5 → t.ipr.getLsbD i = (s.ipr.getLsbD i && !v.getLsbD i)) ∧
    (a.toNat / 4 * 4 = 0x70 → turn (.hostWrite a v) s = .next { s with cksAcc := 0 })

/-- R22, R28, R30, R33 to R36, R40, R43, R47, R57, R62: a host write of an operand register changes that register only, in its writable
bits and whatever the address bits 1:0; a write of a read-only register or a reserved offset changes nothing. -/
def Obligations.RegisterWritesChangeOneRegister : Prop :=
  ∀ (a : BitVec 8) (v : Word) (s : State),
    (a.toNat / 4 * 4 = 0x14 → turn (.hostWrite a v) s = .next { s with ier := v.setWidth 5 }) ∧
    (a.toNat / 4 * 4 = 0x1C → turn (.hostWrite a v) s = .next { s with timeout := v }) ∧
    (a.toNat / 4 * 4 = 0x2C → turn (.hostWrite a v) s = .next { s with target := v.setWidth 16 }) ∧
    (a.toNat / 4 * 4 = 0x30 → turn (.hostWrite a v) s = .next { s with onTime := v }) ∧
    (a.toNat / 4 * 4 = 0x34 → turn (.hostWrite a v) s = .next { s with kp := v }) ∧
    (a.toNat / 4 * 4 = 0x38 → turn (.hostWrite a v) s = .next { s with ki := v }) ∧
    (a.toNat / 4 * 4 = 0x3C → turn (.hostWrite a v) s = .next { s with kd := v }) ∧
    (a.toNat / 4 * 4 = 0x40 → turn (.hostWrite a v) s = .next { s with errIn := v }) ∧
    (a.toNat / 4 * 4 = 0x58 → turn (.hostWrite a v) s = .next { s with ecoef := v }) ∧
    (a.toNat / 4 * 4 = 0x5C → turn (.hostWrite a v) s = .next { s with mscoef := v }) ∧
    (a.toNat / 4 * 4 = 0x68 → turn (.hostWrite a v) s = .next { s with cyclePeriod := v }) ∧
    (a.toNat / 4 * 4 ∈ [0x00, 0x20, 0x24, 0x28, 0x44, 0x48, 0x4C, 0x50, 0x54, 0x60, 0x64, 0x6C] ∨ 0x78 ≤ a.toNat →
      turn (.hostWrite a v) s = .next s)

/-- R142, R31: a tick adds 1 to TIME modulo 2^32 and changes nothing else; every other step but a reset leaves TIME. -/
def Obligations.OnlyTicksAdvanceTime : Prop :=
  ∀ (e : Event) (s t : State), turn e s = .next t →
    (e = .tick → t = { s with time := BitVec.ofNat 32 (s.time.toNat + 1) }) ∧
    (e ≠ .tick → e ≠ .reset → t.time = s.time)

/-- R48, R110, R127: no step but a host write of the register (or a reset) changes a gain or another operand register. -/
def Obligations.OnlyHostWritesOperands : Prop :=
  ∀ (e : Event) (s t : State), turn e s = .next t → e ≠ .reset →
    (writesReg e .kp = false → t.kp = s.kp) ∧ (writesReg e .ki = false → t.ki = s.ki) ∧
    (writesReg e .kd = false → t.kd = s.kd) ∧ (writesReg e .errIn = false → t.errIn = s.errIn) ∧
    (writesReg e .onTime = false → t.onTime = s.onTime) ∧ (writesReg e .target = false → t.target = s.target) ∧
    (writesReg e .ecoef = false → t.ecoef = s.ecoef) ∧ (writesReg e .mscoef = false → t.mscoef = s.mscoef) ∧
    (writesReg e .timeout = false → t.timeout = s.timeout) ∧
    (writesReg e .cyclePeriod = false → t.cyclePeriod = s.cyclePeriod) ∧ (writesReg e .ier = false → t.ier = s.ier)

/-- R32, R102, R132: the temperatures change only in the step where the device accepts the final 0x06 (or at a reset), and then to the
pending reading. -/
def Obligations.OnlyCommitChangesTemperatures : Prop :=
  ∀ (e : Event) (s t : State), turn e s = .next t → e ≠ .reset →
    (t.envTemp = s.envTemp ∧ t.bathTemp = s.bathTemp) ∨
    (e = .deviceAccept ∧ s.fsm = .txFrameAck ∧ t.envTemp = s.pendEnv ∧ t.bathTemp = s.pendBath ∧ t.fresh = true)

/-- R38, R48: the integral changes only in an EXEC step of the engine (or at a reset). -/
def Obligations.OnlyExecChangesIntegral : Prop :=
  ∀ (e : Event) (s t : State), turn e s = .next t → e ≠ .reset → ¬ (e = .engine ∧ s.fsm = .exec) →
    t.ci = s.ci ∧ t.prevErr = s.prevErr ∧ t.prevTime = s.prevTime ∧ t.pidOut = s.pidOut ∧ t.deficit = s.deficit

/-- R89, R70, R105: a byte joins the wire only by the device's acceptance of the byte on offer; a control byte on offer is one of
0x05, 0x11, 0x12 and 0x06; and acceptances of an element frame, from any index, add bytes of the frame in order. -/
def Obligations.WireGrowsOnlyByOfferedBytes : Prop :=
  (∀ (e : Event) (s t : State), turn e s = .next t → e ≠ .deviceAccept → t.wire = s.wire) ∧
  (∀ (s t : State), turn .deviceAccept s = .next t → t.wire = s.wire ++ (offered s).toList) ∧
  (∀ (s : State) (b : Byte), s.fsm ≠ .txFrame → offered s = some b → b = 0x05 ∨ b = 0x11 ∨ b = 0x12 ∨ b = 0x06) ∧
  (∀ (n : Nat) (s : State), s.fsm = .txFrame → s.idx + n ≤ 64 → s.pending = [] →
    ∃ t, Sys2Proof.core.run n { s with pending := List.replicate n Event.deviceAccept } = .next t ∧
      t.wire = s.wire ++ (s.eframe.toList.drop s.idx).take n)

/-- R54, R68, R95: a host command in flight observes neither a change of `link_up` nor a host write of ON_TIME, ERR_IN or a gain after
its acceptance: with those changed, every engine, device or tick step answers the same, but for the changed values themselves. And a
link operation in flight, whoever started it, does not observe a change of `link_up`, but where its end lets the sequencer start the
read of a cycle. -/
def Obligations.CommandInFlightIgnoresLinkAndOperands : Prop :=
  (∀ (e : Event) (s t : State) (up : Bool) (o r p i d : Word), s.origin = .host → s.fsm ≠ .idle →
    (e = .engine ∨ e = .deviceAccept ∨ (∃ b, e = .deviceSend b) ∨ e = .tick) → turn e s = .next t →
    turn e { s with linkUp := up, onTime := o, errIn := r, kp := p, ki := i, kd := d } =
      .next { t with linkUp := up, onTime := o, errIn := r, kp := p, ki := i, kd := d }) ∧
  (∀ (e : Event) (s t : State) (up : Bool), s.fsm ≠ .idle → s.fsm ≠ .exec → s.fsm ≠ .loopWait →
    (s.loopPhase = .cycleSet → s.fsm ≠ .rxFrame ∧ s.fsm ≠ .txFrameAck ∧ s.fsm ≠ .rxFrameAck) →
    (e = .engine ∨ e = .deviceAccept ∨ (∃ b, e = .deviceSend b) ∨ e = .tick) → turn e s = .next t →
    turn e { s with linkUp := up } = .next { t with linkUp := up })

/-! ## The machine -/

/-- R147: the state after reset, register by register as the host reads it, the internal state, and the two outputs. -/
def Obligations.ResetValues : Prop :=
  (∀ r : Reg, regRead r State.reset =
    if r = .id then 0x50425345 else if r = .ctrl then 0x4 else if r = .cyclePeriod then 0x000A0000 else 0) ∧
  State.reset.fsm = .idle ∧ State.reset.op = .none ∧ State.reset.idx = 0 ∧ State.reset.origin = .none ∧
  State.reset.hostOp = 0 ∧ State.reset.rxfifo = [] ∧ State.reset.acc = 0 ∧ State.reset.pay = Vector.replicate 4 0 ∧
  State.reset.trailer = 0 ∧ State.reset.setVal = 0 ∧ State.reset.eframe = Vector.replicate 64 0 ∧
  State.reset.waitStart = 0 ∧ State.reset.waitBound = 0 ∧ State.reset.cycleStart = 0 ∧ State.reset.loopPhase = .off ∧
  State.reset.heatEntry = false ∧ State.reset.snapE = 0 ∧ State.reset.snapKp = 0 ∧ State.reset.snapKi = 0 ∧
  State.reset.snapKd = 0 ∧ State.reset.pendEnv = 0 ∧ State.reset.pendBath = 0 ∧
  irq State.reset = false ∧ offered State.reset = none

/-- 00_scope.md R4 and log 1: a step takes the first scheduled event, and where its unit decodes to an instruction, is exec of that
instruction on the state without the event. And which instruction that is, in every state: R57, R72, R87: the word written to CMD or to
CKS_DATA, whatever the address bits 1:0; R97, R94, R135: the byte that waits in a reply state, whether or not the wait has reached its
bound; R74, R89: the control byte the device accepts; R76, R77 and log 13: the frame whose last byte the step moves. -/
def Obligations.StepRunsDecodedInstruction : Prop :=
  (∀ (e : Event) (rest : List Event) (s : State) (i : Instr), s.pending = e :: rest →
    fetch e { s with pending := rest } = some i → step s = exec i { s with pending := rest }) ∧
  (∀ (a : BitVec 8) (v : Word) (rest : List Event) (s : State), s.pending = .hostWrite a v :: rest →
    (a.toNat / 4 * 4 = 0x0C → step s = exec (decodeCmd v) { s with pending := rest }) ∧
    (a.toNat / 4 * 4 = 0x74 →
      step s = exec (.cksDataWrite (v.extractLsb' 0 8) (v.extractLsb' 8 24)) { s with pending := rest })) ∧
  (∀ (b : Byte) (more : List Byte) (rest : List Event) (s : State), s.pending = .engine :: rest →
    (s.fsm = .rxEnqAck ∨ s.fsm = .rxReqAck ∨ s.fsm = .rxFrameAck) → s.rxfifo = b :: more →
    step s = exec (if b = 0x06 then .rxAccept else if b = 0x15 then .rxDeny else if b = 0x18 then .estopReserved else .rxOtherReply b)
      { s with pending := rest }) ∧
  (∀ (rest : List Event) (s : State), s.pending = .deviceAccept :: rest →
    (s.fsm = .txEnq → step s = exec .txReady { s with pending := rest }) ∧
    (s.fsm = .txReq → s.op = .read → step s = exec .txTempRequest { s with pending := rest }) ∧
    (s.fsm = .txReq → s.op ≠ .read → step s = exec .txSetRequest { s with pending := rest }) ∧
    (s.fsm = .txFrameAck → step s = exec .txAccept { s with pending := rest }) ∧
    (∀ ms : Word, s.fsm = .txFrame → s.idx = 63 → s.eframe = elementVector ms →
      step s = exec (.elementFrame ms) { s with pending := rest })) ∧
  (∀ (env bath : Half) (unused : List Byte) (trailer : Byte) (more : List Byte) (rest : List Event) (s : State),
    s.pending = .engine :: rest → unused.length = 59 → s.fsm = .rxFrame → s.idx = 63 →
    s.collected = tempBody env bath unused → s.rxfifo = trailer :: more →
    step s = exec (.tempFrame env bath unused trailer) { s with pending := rest })

/-- 30_encoding.md R80 and log 15: an instruction placed for the next step is the instruction the next step fetches and runs. -/
def Obligations.PlacedInstructionRunsNext : Prop :=
  ∀ (i : Instr) (s : State), WellFormed i → step (place i s) = exec i (positionFor i s)

/-- The invariant holds after reset; and R146: a pulse of `rst_n` puts PBSE into its reset state whatever was in flight (the input
`link_up`, the device's record and the schedule are not PBSE's, the model's choice of log 5), where the invariant holds again. -/
def Obligations.InvariantAtReset : Prop :=
  Machine.Inv State.reset ∧
  ∀ s : State, ∃ t, turn .reset s = .next t ∧ Machine.Inv t ∧
    t = { State.reset with linkUp := s.linkUp, wire := s.wire, pending := s.pending, draws := s.draws }

/-- R19, R45, R49, R51, R53, R104, R122, R125, R131: every step of every agent, scheduled or drawn, keeps the invariant. -/
def Obligations.StepKeepsInvariant : Prop :=
  ∀ s t : State, Machine.Inv s → step s = .next t → Machine.Inv t

/-- R60, R18: from a state that meets the invariant no step faults (the fault that this excludes is log 11's; that a step which is not
enabled answers a next state is log 3's), and in every state the one step refused is a narrow bus access, under its own name. -/
def Obligations.SafeStatesNeverStop : Prop :=
  (∀ (e : Event) (s : State), Machine.Inv s → (∀ a, e ≠ .hostNarrow a) → ∃ t, turn e s = .next t) ∧
  ∀ (a : BitVec 8) (s : State), turn (.hostNarrow a) s = .refused .narrowBusAccess

/-- R125: a step from a state that meets the invariant to one that sends an element frame for the sequencer or a CYCLE command leads to
the frame of an on-time of at most 10000 ms. -/
def Obligations.SequencerFramesAreClamped : Prop :=
  ∀ s t : State, Machine.Inv s → step s = .next t → t.fsm = .txFrame → t.origin ≠ .host →
    ∃ ms : Word, ms.toNat ≤ 10000 ∧ t.eframe.toList = elementBytes ms ∧ t.lastOnTime = ms
end

