-- ==== Sys2Proof/Laws/Bits.lean ====
section
/-! SUPPORT. The bit fields of a command word, and that big-endian bytes and values determine each other. -/

namespace Sys2Proof

open Machine

/-- Every 4-bit value by name, for a case split on OP. -/
theorem bitVec4_cases (op : BitVec 4) :
    op = 0 ∨ op = 1 ∨ op = 2 ∨ op = 3 ∨ op = 4 ∨ op = 5 ∨ op = 6 ∨ op = 7 ∨ op = 8 ∨ op = 9 ∨ op = 10 ∨ op = 11 ∨ op = 12 ∨
      op = 13 ∨ op = 14 ∨ op = 15 := by
  revert op; decide

theorem cmdWord_getLsbD (op : BitVec 4) (ign : BitVec 28) (i : Nat) :
    (cmdWord op ign).getLsbD i = if i < 4 then op.getLsbD i else ign.getLsbD (i - 4) :=
  BitVec.getLsbD_append

@[simp] theorem cmdWord_op (op : BitVec 4) (ign : BitVec 28) : (cmdWord op ign).extractLsb' 0 4 = op := by
  apply BitVec.eq_of_getLsbD_eq; intro i hi
  simp only [BitVec.getLsbD_extractLsb', hi, Nat.zero_add, cmdWord_getLsbD, decide_true, Bool.true_and, if_true]

@[simp] theorem cmdWord_ign (op : BitVec 4) (ign : BitVec 28) : (cmdWord op ign).extractLsb' 4 28 = ign := by
  apply BitVec.eq_of_getLsbD_eq; intro i hi
  simp only [BitVec.getLsbD_extractLsb', hi, cmdWord_getLsbD]
  simp

theorem cmdWord_eta (v : Word) : cmdWord (v.extractLsb' 0 4) (v.extractLsb' 4 28) = v := by
  apply BitVec.eq_of_getLsbD_eq; intro i hi
  simp only [cmdWord_getLsbD, BitVec.getLsbD_extractLsb']
  by_cases h : i < 4
  · simp [h]
  · simp [h, show i - 4 < 28 by omega, show 4 + (i - 4) = i by omega]

@[simp] theorem cksWord_byte (b : Byte) (ign : BitVec 24) : BitVec.extractLsb' 0 8 (ign ++ b : Word) = b := by
  apply BitVec.eq_of_getLsbD_eq; intro i hi
  simp only [BitVec.getLsbD_extractLsb', hi, decide_true, Bool.true_and, Nat.zero_add]
  exact BitVec.getLsbD_append.trans (if_pos hi)

@[simp] theorem cksWord_ign (b : Byte) (ign : BitVec 24) : BitVec.extractLsb' 8 24 (ign ++ b : Word) = ign := by
  apply BitVec.eq_of_getLsbD_eq; intro i hi
  simp only [BitVec.getLsbD_extractLsb', hi, decide_true, Bool.true_and]
  exact BitVec.getLsbD_append.trans (by simp)

theorem cksWord_eta (v : Word) : (v.extractLsb' 8 24 ++ v.extractLsb' 0 8 : Word) = v := by
  apply BitVec.eq_of_getLsbD_eq; intro i hi
  refine BitVec.getLsbD_append.trans ?_
  by_cases h : i < 8
  · simp [h]
  · simp [h, show i - 8 < 24 by omega, show 8 + (i - 8) = i by omega]

theorem be16_getLsbD (a b : Byte) (i : Nat) : (be16 a b).getLsbD i = if i < 8 then b.getLsbD i else a.getLsbD (i - 8) :=
  BitVec.getLsbD_append

@[simp] theorem be16_bytes16 (v : Half) : be16 (v.extractLsb' 8 8) (v.extractLsb' 0 8) = v := by
  apply BitVec.eq_of_getLsbD_eq; intro i hi
  rw [be16_getLsbD]
  by_cases h : i < 8
  · simp [h]
  · simp [h, show i - 8 < 8 by omega, show 8 + (i - 8) = i by omega]

@[simp] theorem bytes16_be16 (a b : Byte) : bytes16 (be16 a b) = [a, b] := by
  simp only [bytes16, List.cons.injEq, and_true]
  constructor <;> apply BitVec.eq_of_getLsbD_eq <;> intro i hi <;>
    simp only [BitVec.getLsbD_extractLsb', be16_getLsbD, hi]
  · simp
  · simp [hi]

theorem be32_getLsbD (a b c d : Byte) (i : Nat) :
    (be32 a b c d).getLsbD i =
      if i < 8 then d.getLsbD i else if i < 16 then c.getLsbD (i - 8) else if i < 24 then b.getLsbD (i - 16)
      else a.getLsbD (i - 24) := by
  refine BitVec.getLsbD_append.trans ?_
  simp only [BitVec.getLsbD_append]
  split_ifs <;> first | rfl | omega

@[simp] theorem be32_bytes32 (v : Word) :
    be32 (v.extractLsb' 24 8) (v.extractLsb' 16 8) (v.extractLsb' 8 8) (v.extractLsb' 0 8) = v := by
  apply BitVec.eq_of_getLsbD_eq; intro i hi
  rw [be32_getLsbD]
  by_cases h : i < 8
  · simp [h]
  · by_cases h2 : i < 16
    · simp [h, h2, show i - 8 < 8 by omega, show 8 + (i - 8) = i by omega]
    · by_cases h3 : i < 24
      · simp [h, h2, h3, show i - 16 < 8 by omega, show 16 + (i - 16) = i by omega]
      · simp [h, h2, h3, show i - 24 < 8 by omega, show 24 + (i - 24) = i by omega]

@[simp] theorem bytes32_be32 (a b c d : Byte) : bytes32 (be32 a b c d) = [a, b, c, d] := by
  simp only [bytes32, List.cons.injEq, and_true]
  refine ⟨?_, ?_, ?_, ?_⟩ <;> apply BitVec.eq_of_getLsbD_eq <;> intro i hi <;>
    simp only [BitVec.getLsbD_extractLsb', hi, be32_getLsbD, decide_true, Bool.true_and] <;>
    split_ifs <;> first | omega | (congr 1; omega)

@[simp] theorem filler_length : filler.length = 59 := by simp [filler]

@[simp] theorem elementBytes_length (ms : Word) : (elementBytes ms).length = 64 := by simp [elementBytes, bytes32]

@[simp] theorem elementVector_toList (ms : Word) : (elementVector ms).toList = elementBytes ms := rfl

/-- 60 bytes are their first 59 and their last. -/
theorem take59_append (rest : List Byte) (h : rest.length = 60) : rest.take 59 ++ [rest.getD 59 0] = rest := by
  rw [List.getD_eq_getElem?_getD, List.getElem?_eq_getElem (by omega), Option.getD_some, List.take_append_getElem (by omega)]
  simp [h]

/-- What `decodeTempFrame` accepts: 64 bytes that are the frame it reads. -/
theorem decodeTempFrame_ok {bs : List Byte} {i : Instr} (h : decodeTempFrame bs = .ok i) :
    ∃ env bath unused trailer, i = .tempFrame env bath unused trailer ∧ unused.length = 59 ∧
      bs = tempBytes env bath unused trailer := by
  unfold decodeTempFrame at h
  split at h
  · rename_i hl
    match bs, hl, h with
    | e1 :: e0 :: b1 :: b0 :: rest, hl, h =>
      have hr : rest.length = 60 := by simp at hl; omega
      cases h
      refine ⟨_, _, _, _, rfl, by simp [hr], ?_⟩
      simp only [tempBytes, bytes16_be16, take59_append rest hr]; rfl
    | [], hl, _ => simp at hl
    | [_], hl, _ => simp at hl
    | [_, _], hl, _ => simp at hl
    | [_, _, _], hl, _ => simp at hl
  · cases h

/-- What `decodeElementFrame` accepts: the bytes of the element frame it reads. -/
theorem decodeElementFrame_ok {bs : List Byte} {i : Instr} (h : decodeElementFrame bs = .ok i) :
    ∃ ms, i = .elementFrame ms ∧ bs = elementBytes ms := by
  unfold decodeElementFrame at h
  split at h
  · rename_i hl
    match bs, hl, h with
    | m3 :: m2 :: m1 :: m0 :: rest, hl, h =>
      have hr : rest.length = 60 := by simp at hl; omega
      dsimp only at h
      split at h
      · rename_i h1
        split at h
        · rename_i h2
          cases h
          refine ⟨_, rfl, ?_⟩
          rw [elementBytes, bytes32_be32, ← h2, ← h1, take59_append rest hr]; rfl
        · cases h
      · cases h
    | [], hl, _ => simp at hl
    | [_], hl, _ => simp at hl
    | [_, _], hl, _ => simp at hl
    | [_, _, _], hl, _ => simp at hl
  · cases h

end Sys2Proof
end

