-- ==== Sys2Proof/Laws/Checksum.lean ====
section
/-! SUPPORT. The checksum and the width functions as arithmetic. -/

namespace Sys2Proof.Machine

theorem cksAdd_toNat (a b : Byte) : (cksAdd a b).toNat = (a.toNat + b.toNat) % 255 := by
  simp only [cksAdd, BitVec.toNat_ofNat]; omega

theorem cksAdd_lt (a b : Byte) : (cksAdd a b).toNat < 255 := by rw [cksAdd_toNat]; omega

theorem foldl_cksAdd_lt (bs : List Byte) (a : Byte) (h : a.toNat < 255) : (bs.foldl cksAdd a).toNat < 255 := by
  induction bs generalizing a with
  | nil => exact h
  | cons b bs ih => exact ih _ (cksAdd_lt a b)

theorem cks_lt (bs : List Byte) : (cks bs).toNat < 255 := foldl_cksAdd_lt bs 0 (by decide)

@[simp] theorem byteSum_nil : byteSum [] = 0 := rfl

@[simp] theorem byteSum_cons (b : Byte) (bs : List Byte) : byteSum (b :: bs) = b.toNat + byteSum bs := by simp [byteSum]

@[simp] theorem byteSum_append (as bs : List Byte) : byteSum (as ++ bs) = byteSum as + byteSum bs := by simp [byteSum]

/-- `sat_N` as a clamp (00_scope.md R10). -/
theorem satN_eq (n : Nat) (v : Int) : satN n v = max (-2 ^ (n - 1)) (min (2 ^ (n - 1) - 1) v) := by
  unfold satN
  have : (0 : Int) < 2 ^ (n - 1) := by positivity
  generalize (2 : Int) ^ (n - 1) = k at *
  split
  · omega
  · split <;> omega

/-- `floor_div` by a positive number is the Euclidean quotient (00_scope.md R10). -/
theorem floorDiv_eq (a : Int) {b : Int} (h : 0 ≤ b) : floorDiv a b = a / b := Int.fdiv_eq_ediv_of_nonneg _ h

/-- The range of a signed 32-bit register. -/
theorem inS32_sext (v : Word) : inS32 (sext v) := by
  have h1 := @BitVec.le_toInt 32 v
  have h2 := @BitVec.toInt_lt 32 v
  simp only [inS32, sext] at *; omega

end Sys2Proof.Machine
end

