-- ==== Sys2Proof/Laws/State.lean ====
section
/-! SUPPORT. One lemma per field per named update of State. -/

namespace Sys2Proof.Machine

@[simp] theorem enter_start (f : Fsm) (s : State) : (enter f s).start = s.start := rfl
@[simp] theorem enter_loopEn (f : Fsm) (s : State) : (enter f s).loopEn = s.loopEn := rfl
@[simp] theorem enter_autoflush (f : Fsm) (s : State) : (enter f s).autoflush = s.autoflush := rfl
@[simp] theorem enter_pidAutoclr (f : Fsm) (s : State) : (enter f s).pidAutoclr = s.pidAutoclr := rfl
@[simp] theorem enter_session (f : Fsm) (s : State) : (enter f s).session = s.session := rfl
@[simp] theorem enter_fresh (f : Fsm) (s : State) : (enter f s).fresh = s.fresh := rfl
@[simp] theorem enter_loopRun (f : Fsm) (s : State) : (enter f s).loopRun = s.loopRun := rfl
@[simp] theorem enter_fatal (f : Fsm) (s : State) : (enter f s).fatal = s.fatal := rfl
@[simp] theorem enter_pidSat (f : Fsm) (s : State) : (enter f s).pidSat = s.pidSat := rfl
@[simp] theorem enter_rxOvf (f : Fsm) (s : State) : (enter f s).rxOvf = s.rxOvf := rfl
@[simp] theorem enter_errCause (f : Fsm) (s : State) : (enter f s).errCause = s.errCause := rfl
@[simp] theorem enter_ier (f : Fsm) (s : State) : (enter f s).ier = s.ier := rfl
@[simp] theorem enter_ipr (f : Fsm) (s : State) : (enter f s).ipr = s.ipr := rfl
@[simp] theorem enter_timeout (f : Fsm) (s : State) : (enter f s).timeout = s.timeout := rfl
@[simp] theorem enter_time (f : Fsm) (s : State) : (enter f s).time = s.time := rfl
@[simp] theorem enter_envTemp (f : Fsm) (s : State) : (enter f s).envTemp = s.envTemp := rfl
@[simp] theorem enter_bathTemp (f : Fsm) (s : State) : (enter f s).bathTemp = s.bathTemp := rfl
@[simp] theorem enter_target (f : Fsm) (s : State) : (enter f s).target = s.target := rfl
@[simp] theorem enter_onTime (f : Fsm) (s : State) : (enter f s).onTime = s.onTime := rfl
@[simp] theorem enter_kp (f : Fsm) (s : State) : (enter f s).kp = s.kp := rfl
@[simp] theorem enter_ki (f : Fsm) (s : State) : (enter f s).ki = s.ki := rfl
@[simp] theorem enter_kd (f : Fsm) (s : State) : (enter f s).kd = s.kd := rfl
@[simp] theorem enter_errIn (f : Fsm) (s : State) : (enter f s).errIn = s.errIn := rfl
@[simp] theorem enter_pidOut (f : Fsm) (s : State) : (enter f s).pidOut = s.pidOut := rfl
@[simp] theorem enter_ci (f : Fsm) (s : State) : (enter f s).ci = s.ci := rfl
@[simp] theorem enter_prevErr (f : Fsm) (s : State) : (enter f s).prevErr = s.prevErr := rfl
@[simp] theorem enter_prevTime (f : Fsm) (s : State) : (enter f s).prevTime = s.prevTime := rfl
@[simp] theorem enter_ecoef (f : Fsm) (s : State) : (enter f s).ecoef = s.ecoef := rfl
@[simp] theorem enter_mscoef (f : Fsm) (s : State) : (enter f s).mscoef = s.mscoef := rfl
@[simp] theorem enter_deficit (f : Fsm) (s : State) : (enter f s).deficit = s.deficit := rfl
@[simp] theorem enter_lastOnTime (f : Fsm) (s : State) : (enter f s).lastOnTime = s.lastOnTime := rfl
@[simp] theorem enter_cyclePeriod (f : Fsm) (s : State) : (enter f s).cyclePeriod = s.cyclePeriod := rfl
@[simp] theorem enter_cksDiag (f : Fsm) (s : State) : (enter f s).cksDiag = s.cksDiag := rfl
@[simp] theorem enter_cksAcc (f : Fsm) (s : State) : (enter f s).cksAcc = s.cksAcc := rfl
@[simp] theorem enter_fsm (f : Fsm) (s : State) : (enter f s).fsm = f := rfl
@[simp] theorem enter_op (f : Fsm) (s : State) : (enter f s).op = s.op := rfl
@[simp] theorem enter_idx (f : Fsm) (s : State) : (enter f s).idx = s.idx := rfl
@[simp] theorem enter_origin (f : Fsm) (s : State) : (enter f s).origin = s.origin := rfl
@[simp] theorem enter_hostOp (f : Fsm) (s : State) : (enter f s).hostOp = s.hostOp := rfl
@[simp] theorem enter_rxfifo (f : Fsm) (s : State) : (enter f s).rxfifo = s.rxfifo := rfl
@[simp] theorem enter_acc (f : Fsm) (s : State) : (enter f s).acc = s.acc := rfl
@[simp] theorem enter_pay (f : Fsm) (s : State) : (enter f s).pay = s.pay := rfl
@[simp] theorem enter_trailer (f : Fsm) (s : State) : (enter f s).trailer = s.trailer := rfl
@[simp] theorem enter_setVal (f : Fsm) (s : State) : (enter f s).setVal = s.setVal := rfl
@[simp] theorem enter_eframe (f : Fsm) (s : State) : (enter f s).eframe = s.eframe := rfl
@[simp] theorem enter_waitStart (f : Fsm) (s : State) : (enter f s).waitStart = s.time := rfl
@[simp] theorem enter_waitBound (f : Fsm) (s : State) : (enter f s).waitBound = s.timeout := rfl
@[simp] theorem enter_cycleStart (f : Fsm) (s : State) : (enter f s).cycleStart = s.cycleStart := rfl
@[simp] theorem enter_loopPhase (f : Fsm) (s : State) : (enter f s).loopPhase = s.loopPhase := rfl
@[simp] theorem enter_heatEntry (f : Fsm) (s : State) : (enter f s).heatEntry = s.heatEntry := rfl
@[simp] theorem enter_snapE (f : Fsm) (s : State) : (enter f s).snapE = s.snapE := rfl
@[simp] theorem enter_snapKp (f : Fsm) (s : State) : (enter f s).snapKp = s.snapKp := rfl
@[simp] theorem enter_snapKi (f : Fsm) (s : State) : (enter f s).snapKi = s.snapKi := rfl
@[simp] theorem enter_snapKd (f : Fsm) (s : State) : (enter f s).snapKd = s.snapKd := rfl
@[simp] theorem enter_pendEnv (f : Fsm) (s : State) : (enter f s).pendEnv = s.pendEnv := rfl
@[simp] theorem enter_pendBath (f : Fsm) (s : State) : (enter f s).pendBath = s.pendBath := rfl
@[simp] theorem enter_linkUp (f : Fsm) (s : State) : (enter f s).linkUp = s.linkUp := rfl
@[simp] theorem enter_busRdata (f : Fsm) (s : State) : (enter f s).busRdata = s.busRdata := rfl
@[simp] theorem enter_wire (f : Fsm) (s : State) : (enter f s).wire = s.wire := rfl
@[simp] theorem enter_collected (f : Fsm) (s : State) : (enter f s).collected = s.collected := rfl
@[simp] theorem enter_pending (f : Fsm) (s : State) : (enter f s).pending = s.pending := rfl
@[simp] theorem enter_draws (f : Fsm) (s : State) : (enter f s).draws = s.draws := rfl

@[simp] theorem setIpr_start (b : BitVec 5) (s : State) : (setIpr b s).start = s.start := rfl
@[simp] theorem setIpr_loopEn (b : BitVec 5) (s : State) : (setIpr b s).loopEn = s.loopEn := rfl
@[simp] theorem setIpr_autoflush (b : BitVec 5) (s : State) : (setIpr b s).autoflush = s.autoflush := rfl
@[simp] theorem setIpr_pidAutoclr (b : BitVec 5) (s : State) : (setIpr b s).pidAutoclr = s.pidAutoclr := rfl
@[simp] theorem setIpr_session (b : BitVec 5) (s : State) : (setIpr b s).session = s.session := rfl
@[simp] theorem setIpr_fresh (b : BitVec 5) (s : State) : (setIpr b s).fresh = s.fresh := rfl
@[simp] theorem setIpr_loopRun (b : BitVec 5) (s : State) : (setIpr b s).loopRun = s.loopRun := rfl
@[simp] theorem setIpr_fatal (b : BitVec 5) (s : State) : (setIpr b s).fatal = s.fatal := rfl
@[simp] theorem setIpr_pidSat (b : BitVec 5) (s : State) : (setIpr b s).pidSat = s.pidSat := rfl
@[simp] theorem setIpr_rxOvf (b : BitVec 5) (s : State) : (setIpr b s).rxOvf = s.rxOvf := rfl
@[simp] theorem setIpr_errCause (b : BitVec 5) (s : State) : (setIpr b s).errCause = s.errCause := rfl
@[simp] theorem setIpr_ier (b : BitVec 5) (s : State) : (setIpr b s).ier = s.ier := rfl
@[simp] theorem setIpr_ipr (b : BitVec 5) (s : State) : (setIpr b s).ipr = s.ipr ||| b := rfl
@[simp] theorem setIpr_timeout (b : BitVec 5) (s : State) : (setIpr b s).timeout = s.timeout := rfl
@[simp] theorem setIpr_time (b : BitVec 5) (s : State) : (setIpr b s).time = s.time := rfl
@[simp] theorem setIpr_envTemp (b : BitVec 5) (s : State) : (setIpr b s).envTemp = s.envTemp := rfl
@[simp] theorem setIpr_bathTemp (b : BitVec 5) (s : State) : (setIpr b s).bathTemp = s.bathTemp := rfl
@[simp] theorem setIpr_target (b : BitVec 5) (s : State) : (setIpr b s).target = s.target := rfl
@[simp] theorem setIpr_onTime (b : BitVec 5) (s : State) : (setIpr b s).onTime = s.onTime := rfl
@[simp] theorem setIpr_kp (b : BitVec 5) (s : State) : (setIpr b s).kp = s.kp := rfl
@[simp] theorem setIpr_ki (b : BitVec 5) (s : State) : (setIpr b s).ki = s.ki := rfl
@[simp] theorem setIpr_kd (b : BitVec 5) (s : State) : (setIpr b s).kd = s.kd := rfl
@[simp] theorem setIpr_errIn (b : BitVec 5) (s : State) : (setIpr b s).errIn = s.errIn := rfl
@[simp] theorem setIpr_pidOut (b : BitVec 5) (s : State) : (setIpr b s).pidOut = s.pidOut := rfl
@[simp] theorem setIpr_ci (b : BitVec 5) (s : State) : (setIpr b s).ci = s.ci := rfl
@[simp] theorem setIpr_prevErr (b : BitVec 5) (s : State) : (setIpr b s).prevErr = s.prevErr := rfl
@[simp] theorem setIpr_prevTime (b : BitVec 5) (s : State) : (setIpr b s).prevTime = s.prevTime := rfl
@[simp] theorem setIpr_ecoef (b : BitVec 5) (s : State) : (setIpr b s).ecoef = s.ecoef := rfl
@[simp] theorem setIpr_mscoef (b : BitVec 5) (s : State) : (setIpr b s).mscoef = s.mscoef := rfl
@[simp] theorem setIpr_deficit (b : BitVec 5) (s : State) : (setIpr b s).deficit = s.deficit := rfl
@[simp] theorem setIpr_lastOnTime (b : BitVec 5) (s : State) : (setIpr b s).lastOnTime = s.lastOnTime := rfl
@[simp] theorem setIpr_cyclePeriod (b : BitVec 5) (s : State) : (setIpr b s).cyclePeriod = s.cyclePeriod := rfl
@[simp] theorem setIpr_cksDiag (b : BitVec 5) (s : State) : (setIpr b s).cksDiag = s.cksDiag := rfl
@[simp] theorem setIpr_cksAcc (b : BitVec 5) (s : State) : (setIpr b s).cksAcc = s.cksAcc := rfl
@[simp] theorem setIpr_fsm (b : BitVec 5) (s : State) : (setIpr b s).fsm = s.fsm := rfl
@[simp] theorem setIpr_op (b : BitVec 5) (s : State) : (setIpr b s).op = s.op := rfl
@[simp] theorem setIpr_idx (b : BitVec 5) (s : State) : (setIpr b s).idx = s.idx := rfl
@[simp] theorem setIpr_origin (b : BitVec 5) (s : State) : (setIpr b s).origin = s.origin := rfl
@[simp] theorem setIpr_hostOp (b : BitVec 5) (s : State) : (setIpr b s).hostOp = s.hostOp := rfl
@[simp] theorem setIpr_rxfifo (b : BitVec 5) (s : State) : (setIpr b s).rxfifo = s.rxfifo := rfl
@[simp] theorem setIpr_acc (b : BitVec 5) (s : State) : (setIpr b s).acc = s.acc := rfl
@[simp] theorem setIpr_pay (b : BitVec 5) (s : State) : (setIpr b s).pay = s.pay := rfl
@[simp] theorem setIpr_trailer (b : BitVec 5) (s : State) : (setIpr b s).trailer = s.trailer := rfl
@[simp] theorem setIpr_setVal (b : BitVec 5) (s : State) : (setIpr b s).setVal = s.setVal := rfl
@[simp] theorem setIpr_eframe (b : BitVec 5) (s : State) : (setIpr b s).eframe = s.eframe := rfl
@[simp] theorem setIpr_waitStart (b : BitVec 5) (s : State) : (setIpr b s).waitStart = s.waitStart := rfl
@[simp] theorem setIpr_waitBound (b : BitVec 5) (s : State) : (setIpr b s).waitBound = s.waitBound := rfl
@[simp] theorem setIpr_cycleStart (b : BitVec 5) (s : State) : (setIpr b s).cycleStart = s.cycleStart := rfl
@[simp] theorem setIpr_loopPhase (b : BitVec 5) (s : State) : (setIpr b s).loopPhase = s.loopPhase := rfl
@[simp] theorem setIpr_heatEntry (b : BitVec 5) (s : State) : (setIpr b s).heatEntry = s.heatEntry := rfl
@[simp] theorem setIpr_snapE (b : BitVec 5) (s : State) : (setIpr b s).snapE = s.snapE := rfl
@[simp] theorem setIpr_snapKp (b : BitVec 5) (s : State) : (setIpr b s).snapKp = s.snapKp := rfl
@[simp] theorem setIpr_snapKi (b : BitVec 5) (s : State) : (setIpr b s).snapKi = s.snapKi := rfl
@[simp] theorem setIpr_snapKd (b : BitVec 5) (s : State) : (setIpr b s).snapKd = s.snapKd := rfl
@[simp] theorem setIpr_pendEnv (b : BitVec 5) (s : State) : (setIpr b s).pendEnv = s.pendEnv := rfl
@[simp] theorem setIpr_pendBath (b : BitVec 5) (s : State) : (setIpr b s).pendBath = s.pendBath := rfl
@[simp] theorem setIpr_linkUp (b : BitVec 5) (s : State) : (setIpr b s).linkUp = s.linkUp := rfl
@[simp] theorem setIpr_busRdata (b : BitVec 5) (s : State) : (setIpr b s).busRdata = s.busRdata := rfl
@[simp] theorem setIpr_wire (b : BitVec 5) (s : State) : (setIpr b s).wire = s.wire := rfl
@[simp] theorem setIpr_collected (b : BitVec 5) (s : State) : (setIpr b s).collected = s.collected := rfl
@[simp] theorem setIpr_pending (b : BitVec 5) (s : State) : (setIpr b s).pending = s.pending := rfl
@[simp] theorem setIpr_draws (b : BitVec 5) (s : State) : (setIpr b s).draws = s.draws := rfl

@[simp] theorem flushRx_start (s : State) : (flushRx s).start = s.start := rfl
@[simp] theorem flushRx_loopEn (s : State) : (flushRx s).loopEn = s.loopEn := rfl
@[simp] theorem flushRx_autoflush (s : State) : (flushRx s).autoflush = s.autoflush := rfl
@[simp] theorem flushRx_pidAutoclr (s : State) : (flushRx s).pidAutoclr = s.pidAutoclr := rfl
@[simp] theorem flushRx_session (s : State) : (flushRx s).session = s.session := rfl
@[simp] theorem flushRx_fresh (s : State) : (flushRx s).fresh = s.fresh := rfl
@[simp] theorem flushRx_loopRun (s : State) : (flushRx s).loopRun = s.loopRun := rfl
@[simp] theorem flushRx_fatal (s : State) : (flushRx s).fatal = s.fatal := rfl
@[simp] theorem flushRx_pidSat (s : State) : (flushRx s).pidSat = s.pidSat := rfl
@[simp] theorem flushRx_rxOvf (s : State) : (flushRx s).rxOvf = s.rxOvf := rfl
@[simp] theorem flushRx_errCause (s : State) : (flushRx s).errCause = s.errCause := rfl
@[simp] theorem flushRx_ier (s : State) : (flushRx s).ier = s.ier := rfl
@[simp] theorem flushRx_ipr (s : State) : (flushRx s).ipr = s.ipr := rfl
@[simp] theorem flushRx_timeout (s : State) : (flushRx s).timeout = s.timeout := rfl
@[simp] theorem flushRx_time (s : State) : (flushRx s).time = s.time := rfl
@[simp] theorem flushRx_envTemp (s : State) : (flushRx s).envTemp = s.envTemp := rfl
@[simp] theorem flushRx_bathTemp (s : State) : (flushRx s).bathTemp = s.bathTemp := rfl
@[simp] theorem flushRx_target (s : State) : (flushRx s).target = s.target := rfl
@[simp] theorem flushRx_onTime (s : State) : (flushRx s).onTime = s.onTime := rfl
@[simp] theorem flushRx_kp (s : State) : (flushRx s).kp = s.kp := rfl
@[simp] theorem flushRx_ki (s : State) : (flushRx s).ki = s.ki := rfl
@[simp] theorem flushRx_kd (s : State) : (flushRx s).kd = s.kd := rfl
@[simp] theorem flushRx_errIn (s : State) : (flushRx s).errIn = s.errIn := rfl
@[simp] theorem flushRx_pidOut (s : State) : (flushRx s).pidOut = s.pidOut := rfl
@[simp] theorem flushRx_ci (s : State) : (flushRx s).ci = s.ci := rfl
@[simp] theorem flushRx_prevErr (s : State) : (flushRx s).prevErr = s.prevErr := rfl
@[simp] theorem flushRx_prevTime (s : State) : (flushRx s).prevTime = s.prevTime := rfl
@[simp] theorem flushRx_ecoef (s : State) : (flushRx s).ecoef = s.ecoef := rfl
@[simp] theorem flushRx_mscoef (s : State) : (flushRx s).mscoef = s.mscoef := rfl
@[simp] theorem flushRx_deficit (s : State) : (flushRx s).deficit = s.deficit := rfl
@[simp] theorem flushRx_lastOnTime (s : State) : (flushRx s).lastOnTime = s.lastOnTime := rfl
@[simp] theorem flushRx_cyclePeriod (s : State) : (flushRx s).cyclePeriod = s.cyclePeriod := rfl
@[simp] theorem flushRx_cksDiag (s : State) : (flushRx s).cksDiag = s.cksDiag := rfl
@[simp] theorem flushRx_cksAcc (s : State) : (flushRx s).cksAcc = s.cksAcc := rfl
@[simp] theorem flushRx_fsm (s : State) : (flushRx s).fsm = s.fsm := rfl
@[simp] theorem flushRx_op (s : State) : (flushRx s).op = s.op := rfl
@[simp] theorem flushRx_idx (s : State) : (flushRx s).idx = s.idx := rfl
@[simp] theorem flushRx_origin (s : State) : (flushRx s).origin = s.origin := rfl
@[simp] theorem flushRx_hostOp (s : State) : (flushRx s).hostOp = s.hostOp := rfl
@[simp] theorem flushRx_rxfifo (s : State) : (flushRx s).rxfifo = [] := rfl
@[simp] theorem flushRx_acc (s : State) : (flushRx s).acc = s.acc := rfl
@[simp] theorem flushRx_pay (s : State) : (flushRx s).pay = s.pay := rfl
@[simp] theorem flushRx_trailer (s : State) : (flushRx s).trailer = s.trailer := rfl
@[simp] theorem flushRx_setVal (s : State) : (flushRx s).setVal = s.setVal := rfl
@[simp] theorem flushRx_eframe (s : State) : (flushRx s).eframe = s.eframe := rfl
@[simp] theorem flushRx_waitStart (s : State) : (flushRx s).waitStart = s.waitStart := rfl
@[simp] theorem flushRx_waitBound (s : State) : (flushRx s).waitBound = s.waitBound := rfl
@[simp] theorem flushRx_cycleStart (s : State) : (flushRx s).cycleStart = s.cycleStart := rfl
@[simp] theorem flushRx_loopPhase (s : State) : (flushRx s).loopPhase = s.loopPhase := rfl
@[simp] theorem flushRx_heatEntry (s : State) : (flushRx s).heatEntry = s.heatEntry := rfl
@[simp] theorem flushRx_snapE (s : State) : (flushRx s).snapE = s.snapE := rfl
@[simp] theorem flushRx_snapKp (s : State) : (flushRx s).snapKp = s.snapKp := rfl
@[simp] theorem flushRx_snapKi (s : State) : (flushRx s).snapKi = s.snapKi := rfl
@[simp] theorem flushRx_snapKd (s : State) : (flushRx s).snapKd = s.snapKd := rfl
@[simp] theorem flushRx_pendEnv (s : State) : (flushRx s).pendEnv = s.pendEnv := rfl
@[simp] theorem flushRx_pendBath (s : State) : (flushRx s).pendBath = s.pendBath := rfl
@[simp] theorem flushRx_linkUp (s : State) : (flushRx s).linkUp = s.linkUp := rfl
@[simp] theorem flushRx_busRdata (s : State) : (flushRx s).busRdata = s.busRdata := rfl
@[simp] theorem flushRx_wire (s : State) : (flushRx s).wire = s.wire := rfl
@[simp] theorem flushRx_collected (s : State) : (flushRx s).collected = s.collected := rfl
@[simp] theorem flushRx_pending (s : State) : (flushRx s).pending = s.pending := rfl
@[simp] theorem flushRx_draws (s : State) : (flushRx s).draws = s.draws := rfl

@[simp] theorem popRx_start (s : State) : (popRx s).start = s.start := rfl
@[simp] theorem popRx_loopEn (s : State) : (popRx s).loopEn = s.loopEn := rfl
@[simp] theorem popRx_autoflush (s : State) : (popRx s).autoflush = s.autoflush := rfl
@[simp] theorem popRx_pidAutoclr (s : State) : (popRx s).pidAutoclr = s.pidAutoclr := rfl
@[simp] theorem popRx_session (s : State) : (popRx s).session = s.session := rfl
@[simp] theorem popRx_fresh (s : State) : (popRx s).fresh = s.fresh := rfl
@[simp] theorem popRx_loopRun (s : State) : (popRx s).loopRun = s.loopRun := rfl
@[simp] theorem popRx_fatal (s : State) : (popRx s).fatal = s.fatal := rfl
@[simp] theorem popRx_pidSat (s : State) : (popRx s).pidSat = s.pidSat := rfl
@[simp] theorem popRx_rxOvf (s : State) : (popRx s).rxOvf = s.rxOvf := rfl
@[simp] theorem popRx_errCause (s : State) : (popRx s).errCause = s.errCause := rfl
@[simp] theorem popRx_ier (s : State) : (popRx s).ier = s.ier := rfl
@[simp] theorem popRx_ipr (s : State) : (popRx s).ipr = s.ipr := rfl
@[simp] theorem popRx_timeout (s : State) : (popRx s).timeout = s.timeout := rfl
@[simp] theorem popRx_time (s : State) : (popRx s).time = s.time := rfl
@[simp] theorem popRx_envTemp (s : State) : (popRx s).envTemp = s.envTemp := rfl
@[simp] theorem popRx_bathTemp (s : State) : (popRx s).bathTemp = s.bathTemp := rfl
@[simp] theorem popRx_target (s : State) : (popRx s).target = s.target := rfl
@[simp] theorem popRx_onTime (s : State) : (popRx s).onTime = s.onTime := rfl
@[simp] theorem popRx_kp (s : State) : (popRx s).kp = s.kp := rfl
@[simp] theorem popRx_ki (s : State) : (popRx s).ki = s.ki := rfl
@[simp] theorem popRx_kd (s : State) : (popRx s).kd = s.kd := rfl
@[simp] theorem popRx_errIn (s : State) : (popRx s).errIn = s.errIn := rfl
@[simp] theorem popRx_pidOut (s : State) : (popRx s).pidOut = s.pidOut := rfl
@[simp] theorem popRx_ci (s : State) : (popRx s).ci = s.ci := rfl
@[simp] theorem popRx_prevErr (s : State) : (popRx s).prevErr = s.prevErr := rfl
@[simp] theorem popRx_prevTime (s : State) : (popRx s).prevTime = s.prevTime := rfl
@[simp] theorem popRx_ecoef (s : State) : (popRx s).ecoef = s.ecoef := rfl
@[simp] theorem popRx_mscoef (s : State) : (popRx s).mscoef = s.mscoef := rfl
@[simp] theorem popRx_deficit (s : State) : (popRx s).deficit = s.deficit := rfl
@[simp] theorem popRx_lastOnTime (s : State) : (popRx s).lastOnTime = s.lastOnTime := rfl
@[simp] theorem popRx_cyclePeriod (s : State) : (popRx s).cyclePeriod = s.cyclePeriod := rfl
@[simp] theorem popRx_cksDiag (s : State) : (popRx s).cksDiag = s.cksDiag := rfl
@[simp] theorem popRx_cksAcc (s : State) : (popRx s).cksAcc = s.cksAcc := rfl
@[simp] theorem popRx_fsm (s : State) : (popRx s).fsm = s.fsm := rfl
@[simp] theorem popRx_op (s : State) : (popRx s).op = s.op := rfl
@[simp] theorem popRx_idx (s : State) : (popRx s).idx = s.idx := rfl
@[simp] theorem popRx_origin (s : State) : (popRx s).origin = s.origin := rfl
@[simp] theorem popRx_hostOp (s : State) : (popRx s).hostOp = s.hostOp := rfl
@[simp] theorem popRx_rxfifo (s : State) : (popRx s).rxfifo = s.rxfifo.tail := rfl
@[simp] theorem popRx_acc (s : State) : (popRx s).acc = s.acc := rfl
@[simp] theorem popRx_pay (s : State) : (popRx s).pay = s.pay := rfl
@[simp] theorem popRx_trailer (s : State) : (popRx s).trailer = s.trailer := rfl
@[simp] theorem popRx_setVal (s : State) : (popRx s).setVal = s.setVal := rfl
@[simp] theorem popRx_eframe (s : State) : (popRx s).eframe = s.eframe := rfl
@[simp] theorem popRx_waitStart (s : State) : (popRx s).waitStart = s.waitStart := rfl
@[simp] theorem popRx_waitBound (s : State) : (popRx s).waitBound = s.waitBound := rfl
@[simp] theorem popRx_cycleStart (s : State) : (popRx s).cycleStart = s.cycleStart := rfl
@[simp] theorem popRx_loopPhase (s : State) : (popRx s).loopPhase = s.loopPhase := rfl
@[simp] theorem popRx_heatEntry (s : State) : (popRx s).heatEntry = s.heatEntry := rfl
@[simp] theorem popRx_snapE (s : State) : (popRx s).snapE = s.snapE := rfl
@[simp] theorem popRx_snapKp (s : State) : (popRx s).snapKp = s.snapKp := rfl
@[simp] theorem popRx_snapKi (s : State) : (popRx s).snapKi = s.snapKi := rfl
@[simp] theorem popRx_snapKd (s : State) : (popRx s).snapKd = s.snapKd := rfl
@[simp] theorem popRx_pendEnv (s : State) : (popRx s).pendEnv = s.pendEnv := rfl
@[simp] theorem popRx_pendBath (s : State) : (popRx s).pendBath = s.pendBath := rfl
@[simp] theorem popRx_linkUp (s : State) : (popRx s).linkUp = s.linkUp := rfl
@[simp] theorem popRx_busRdata (s : State) : (popRx s).busRdata = s.busRdata := rfl
@[simp] theorem popRx_wire (s : State) : (popRx s).wire = s.wire := rfl
@[simp] theorem popRx_collected (s : State) : (popRx s).collected = s.collected := rfl
@[simp] theorem popRx_pending (s : State) : (popRx s).pending = s.pending := rfl
@[simp] theorem popRx_draws (s : State) : (popRx s).draws = s.draws := rfl

@[simp] theorem sendByte_start (b : Byte) (s : State) : (sendByte b s).start = s.start := rfl
@[simp] theorem sendByte_loopEn (b : Byte) (s : State) : (sendByte b s).loopEn = s.loopEn := rfl
@[simp] theorem sendByte_autoflush (b : Byte) (s : State) : (sendByte b s).autoflush = s.autoflush := rfl
@[simp] theorem sendByte_pidAutoclr (b : Byte) (s : State) : (sendByte b s).pidAutoclr = s.pidAutoclr := rfl
@[simp] theorem sendByte_session (b : Byte) (s : State) : (sendByte b s).session = s.session := rfl
@[simp] theorem sendByte_fresh (b : Byte) (s : State) : (sendByte b s).fresh = s.fresh := rfl
@[simp] theorem sendByte_loopRun (b : Byte) (s : State) : (sendByte b s).loopRun = s.loopRun := rfl
@[simp] theorem sendByte_fatal (b : Byte) (s : State) : (sendByte b s).fatal = s.fatal := rfl
@[simp] theorem sendByte_pidSat (b : Byte) (s : State) : (sendByte b s).pidSat = s.pidSat := rfl
@[simp] theorem sendByte_rxOvf (b : Byte) (s : State) : (sendByte b s).rxOvf = s.rxOvf := rfl
@[simp] theorem sendByte_errCause (b : Byte) (s : State) : (sendByte b s).errCause = s.errCause := rfl
@[simp] theorem sendByte_ier (b : Byte) (s : State) : (sendByte b s).ier = s.ier := rfl
@[simp] theorem sendByte_ipr (b : Byte) (s : State) : (sendByte b s).ipr = s.ipr := rfl
@[simp] theorem sendByte_timeout (b : Byte) (s : State) : (sendByte b s).timeout = s.timeout := rfl
@[simp] theorem sendByte_time (b : Byte) (s : State) : (sendByte b s).time = s.time := rfl
@[simp] theorem sendByte_envTemp (b : Byte) (s : State) : (sendByte b s).envTemp = s.envTemp := rfl
@[simp] theorem sendByte_bathTemp (b : Byte) (s : State) : (sendByte b s).bathTemp = s.bathTemp := rfl
@[simp] theorem sendByte_target (b : Byte) (s : State) : (sendByte b s).target = s.target := rfl
@[simp] theorem sendByte_onTime (b : Byte) (s : State) : (sendByte b s).onTime = s.onTime := rfl
@[simp] theorem sendByte_kp (b : Byte) (s : State) : (sendByte b s).kp = s.kp := rfl
@[simp] theorem sendByte_ki (b : Byte) (s : State) : (sendByte b s).ki = s.ki := rfl
@[simp] theorem sendByte_kd (b : Byte) (s : State) : (sendByte b s).kd = s.kd := rfl
@[simp] theorem sendByte_errIn (b : Byte) (s : State) : (sendByte b s).errIn = s.errIn := rfl
@[simp] theorem sendByte_pidOut (b : Byte) (s : State) : (sendByte b s).pidOut = s.pidOut := rfl
@[simp] theorem sendByte_ci (b : Byte) (s : State) : (sendByte b s).ci = s.ci := rfl
@[simp] theorem sendByte_prevErr (b : Byte) (s : State) : (sendByte b s).prevErr = s.prevErr := rfl
@[simp] theorem sendByte_prevTime (b : Byte) (s : State) : (sendByte b s).prevTime = s.prevTime := rfl
@[simp] theorem sendByte_ecoef (b : Byte) (s : State) : (sendByte b s).ecoef = s.ecoef := rfl
@[simp] theorem sendByte_mscoef (b : Byte) (s : State) : (sendByte b s).mscoef = s.mscoef := rfl
@[simp] theorem sendByte_deficit (b : Byte) (s : State) : (sendByte b s).deficit = s.deficit := rfl
@[simp] theorem sendByte_lastOnTime (b : Byte) (s : State) : (sendByte b s).lastOnTime = s.lastOnTime := rfl
@[simp] theorem sendByte_cyclePeriod (b : Byte) (s : State) : (sendByte b s).cyclePeriod = s.cyclePeriod := rfl
@[simp] theorem sendByte_cksDiag (b : Byte) (s : State) : (sendByte b s).cksDiag = s.cksDiag := rfl
@[simp] theorem sendByte_cksAcc (b : Byte) (s : State) : (sendByte b s).cksAcc = s.cksAcc := rfl
@[simp] theorem sendByte_fsm (b : Byte) (s : State) : (sendByte b s).fsm = s.fsm := rfl
@[simp] theorem sendByte_op (b : Byte) (s : State) : (sendByte b s).op = s.op := rfl
@[simp] theorem sendByte_idx (b : Byte) (s : State) : (sendByte b s).idx = s.idx := rfl
@[simp] theorem sendByte_origin (b : Byte) (s : State) : (sendByte b s).origin = s.origin := rfl
@[simp] theorem sendByte_hostOp (b : Byte) (s : State) : (sendByte b s).hostOp = s.hostOp := rfl
@[simp] theorem sendByte_rxfifo (b : Byte) (s : State) : (sendByte b s).rxfifo = s.rxfifo := rfl
@[simp] theorem sendByte_acc (b : Byte) (s : State) : (sendByte b s).acc = s.acc := rfl
@[simp] theorem sendByte_pay (b : Byte) (s : State) : (sendByte b s).pay = s.pay := rfl
@[simp] theorem sendByte_trailer (b : Byte) (s : State) : (sendByte b s).trailer = s.trailer := rfl
@[simp] theorem sendByte_setVal (b : Byte) (s : State) : (sendByte b s).setVal = s.setVal := rfl
@[simp] theorem sendByte_eframe (b : Byte) (s : State) : (sendByte b s).eframe = s.eframe := rfl
@[simp] theorem sendByte_waitStart (b : Byte) (s : State) : (sendByte b s).waitStart = s.waitStart := rfl
@[simp] theorem sendByte_waitBound (b : Byte) (s : State) : (sendByte b s).waitBound = s.waitBound := rfl
@[simp] theorem sendByte_cycleStart (b : Byte) (s : State) : (sendByte b s).cycleStart = s.cycleStart := rfl
@[simp] theorem sendByte_loopPhase (b : Byte) (s : State) : (sendByte b s).loopPhase = s.loopPhase := rfl
@[simp] theorem sendByte_heatEntry (b : Byte) (s : State) : (sendByte b s).heatEntry = s.heatEntry := rfl
@[simp] theorem sendByte_snapE (b : Byte) (s : State) : (sendByte b s).snapE = s.snapE := rfl
@[simp] theorem sendByte_snapKp (b : Byte) (s : State) : (sendByte b s).snapKp = s.snapKp := rfl
@[simp] theorem sendByte_snapKi (b : Byte) (s : State) : (sendByte b s).snapKi = s.snapKi := rfl
@[simp] theorem sendByte_snapKd (b : Byte) (s : State) : (sendByte b s).snapKd = s.snapKd := rfl
@[simp] theorem sendByte_pendEnv (b : Byte) (s : State) : (sendByte b s).pendEnv = s.pendEnv := rfl
@[simp] theorem sendByte_pendBath (b : Byte) (s : State) : (sendByte b s).pendBath = s.pendBath := rfl
@[simp] theorem sendByte_linkUp (b : Byte) (s : State) : (sendByte b s).linkUp = s.linkUp := rfl
@[simp] theorem sendByte_busRdata (b : Byte) (s : State) : (sendByte b s).busRdata = s.busRdata := rfl
@[simp] theorem sendByte_wire (b : Byte) (s : State) : (sendByte b s).wire = s.wire ++ [b] := rfl
@[simp] theorem sendByte_collected (b : Byte) (s : State) : (sendByte b s).collected = s.collected := rfl
@[simp] theorem sendByte_pending (b : Byte) (s : State) : (sendByte b s).pending = s.pending := rfl
@[simp] theorem sendByte_draws (b : Byte) (s : State) : (sendByte b s).draws = s.draws := rfl

@[simp] theorem goFatal_start (s : State) : (goFatal s).start = s.start := rfl
@[simp] theorem goFatal_loopEn (s : State) : (goFatal s).loopEn = false := rfl
@[simp] theorem goFatal_autoflush (s : State) : (goFatal s).autoflush = s.autoflush := rfl
@[simp] theorem goFatal_pidAutoclr (s : State) : (goFatal s).pidAutoclr = s.pidAutoclr := rfl
@[simp] theorem goFatal_session (s : State) : (goFatal s).session = .deviceError := rfl
@[simp] theorem goFatal_fresh (s : State) : (goFatal s).fresh = s.fresh := rfl
@[simp] theorem goFatal_loopRun (s : State) : (goFatal s).loopRun = false := rfl
@[simp] theorem goFatal_fatal (s : State) : (goFatal s).fatal = true := rfl
@[simp] theorem goFatal_pidSat (s : State) : (goFatal s).pidSat = s.pidSat := rfl
@[simp] theorem goFatal_rxOvf (s : State) : (goFatal s).rxOvf = s.rxOvf := rfl
@[simp] theorem goFatal_errCause (s : State) : (goFatal s).errCause = s.errCause := rfl
@[simp] theorem goFatal_ier (s : State) : (goFatal s).ier = s.ier := rfl
@[simp] theorem goFatal_ipr (s : State) : (goFatal s).ipr = s.ipr := rfl
@[simp] theorem goFatal_timeout (s : State) : (goFatal s).timeout = s.timeout := rfl
@[simp] theorem goFatal_time (s : State) : (goFatal s).time = s.time := rfl
@[simp] theorem goFatal_envTemp (s : State) : (goFatal s).envTemp = s.envTemp := rfl
@[simp] theorem goFatal_bathTemp (s : State) : (goFatal s).bathTemp = s.bathTemp := rfl
@[simp] theorem goFatal_target (s : State) : (goFatal s).target = s.target := rfl
@[simp] theorem goFatal_onTime (s : State) : (goFatal s).onTime = s.onTime := rfl
@[simp] theorem goFatal_kp (s : State) : (goFatal s).kp = s.kp := rfl
@[simp] theorem goFatal_ki (s : State) : (goFatal s).ki = s.ki := rfl
@[simp] theorem goFatal_kd (s : State) : (goFatal s).kd = s.kd := rfl
@[simp] theorem goFatal_errIn (s : State) : (goFatal s).errIn = s.errIn := rfl
@[simp] theorem goFatal_pidOut (s : State) : (goFatal s).pidOut = s.pidOut := rfl
@[simp] theorem goFatal_ci (s : State) : (goFatal s).ci = s.ci := rfl
@[simp] theorem goFatal_prevErr (s : State) : (goFatal s).prevErr = s.prevErr := rfl
@[simp] theorem goFatal_prevTime (s : State) : (goFatal s).prevTime = s.prevTime := rfl
@[simp] theorem goFatal_ecoef (s : State) : (goFatal s).ecoef = s.ecoef := rfl
@[simp] theorem goFatal_mscoef (s : State) : (goFatal s).mscoef = s.mscoef := rfl
@[simp] theorem goFatal_deficit (s : State) : (goFatal s).deficit = s.deficit := rfl
@[simp] theorem goFatal_lastOnTime (s : State) : (goFatal s).lastOnTime = s.lastOnTime := rfl
@[simp] theorem goFatal_cyclePeriod (s : State) : (goFatal s).cyclePeriod = s.cyclePeriod := rfl
@[simp] theorem goFatal_cksDiag (s : State) : (goFatal s).cksDiag = s.cksDiag := rfl
@[simp] theorem goFatal_cksAcc (s : State) : (goFatal s).cksAcc = s.cksAcc := rfl
@[simp] theorem goFatal_fsm (s : State) : (goFatal s).fsm = s.fsm := rfl
@[simp] theorem goFatal_op (s : State) : (goFatal s).op = s.op := rfl
@[simp] theorem goFatal_idx (s : State) : (goFatal s).idx = s.idx := rfl
@[simp] theorem goFatal_origin (s : State) : (goFatal s).origin = s.origin := rfl
@[simp] theorem goFatal_hostOp (s : State) : (goFatal s).hostOp = s.hostOp := rfl
@[simp] theorem goFatal_rxfifo (s : State) : (goFatal s).rxfifo = s.rxfifo := rfl
@[simp] theorem goFatal_acc (s : State) : (goFatal s).acc = s.acc := rfl
@[simp] theorem goFatal_pay (s : State) : (goFatal s).pay = s.pay := rfl
@[simp] theorem goFatal_trailer (s : State) : (goFatal s).trailer = s.trailer := rfl
@[simp] theorem goFatal_setVal (s : State) : (goFatal s).setVal = s.setVal := rfl
@[simp] theorem goFatal_eframe (s : State) : (goFatal s).eframe = s.eframe := rfl
@[simp] theorem goFatal_waitStart (s : State) : (goFatal s).waitStart = s.waitStart := rfl
@[simp] theorem goFatal_waitBound (s : State) : (goFatal s).waitBound = s.waitBound := rfl
@[simp] theorem goFatal_cycleStart (s : State) : (goFatal s).cycleStart = s.cycleStart := rfl
@[simp] theorem goFatal_loopPhase (s : State) : (goFatal s).loopPhase = .off := rfl
@[simp] theorem goFatal_heatEntry (s : State) : (goFatal s).heatEntry = s.heatEntry := rfl
@[simp] theorem goFatal_snapE (s : State) : (goFatal s).snapE = s.snapE := rfl
@[simp] theorem goFatal_snapKp (s : State) : (goFatal s).snapKp = s.snapKp := rfl
@[simp] theorem goFatal_snapKi (s : State) : (goFatal s).snapKi = s.snapKi := rfl
@[simp] theorem goFatal_snapKd (s : State) : (goFatal s).snapKd = s.snapKd := rfl
@[simp] theorem goFatal_pendEnv (s : State) : (goFatal s).pendEnv = s.pendEnv := rfl
@[simp] theorem goFatal_pendBath (s : State) : (goFatal s).pendBath = s.pendBath := rfl
@[simp] theorem goFatal_linkUp (s : State) : (goFatal s).linkUp = s.linkUp := rfl
@[simp] theorem goFatal_busRdata (s : State) : (goFatal s).busRdata = s.busRdata := rfl
@[simp] theorem goFatal_wire (s : State) : (goFatal s).wire = s.wire := rfl
@[simp] theorem goFatal_collected (s : State) : (goFatal s).collected = s.collected := rfl
@[simp] theorem goFatal_pending (s : State) : (goFatal s).pending = s.pending := rfl
@[simp] theorem goFatal_draws (s : State) : (goFatal s).draws = s.draws := rfl

@[simp] theorem clearFatal_start (s : State) : (clearFatal s).start = s.start := rfl
@[simp] theorem clearFatal_loopEn (s : State) : (clearFatal s).loopEn = s.loopEn := rfl
@[simp] theorem clearFatal_autoflush (s : State) : (clearFatal s).autoflush = s.autoflush := rfl
@[simp] theorem clearFatal_pidAutoclr (s : State) : (clearFatal s).pidAutoclr = s.pidAutoclr := rfl
@[simp] theorem clearFatal_session (s : State) : (clearFatal s).session = if s.session = .deviceError then .idle else s.session := rfl
@[simp] theorem clearFatal_fresh (s : State) : (clearFatal s).fresh = s.fresh := rfl
@[simp] theorem clearFatal_loopRun (s : State) : (clearFatal s).loopRun = s.loopRun := rfl
@[simp] theorem clearFatal_fatal (s : State) : (clearFatal s).fatal = false := rfl
@[simp] theorem clearFatal_pidSat (s : State) : (clearFatal s).pidSat = s.pidSat := rfl
@[simp] theorem clearFatal_rxOvf (s : State) : (clearFatal s).rxOvf = s.rxOvf := rfl
@[simp] theorem clearFatal_errCause (s : State) : (clearFatal s).errCause = s.errCause := rfl
@[simp] theorem clearFatal_ier (s : State) : (clearFatal s).ier = s.ier := rfl
@[simp] theorem clearFatal_ipr (s : State) : (clearFatal s).ipr = s.ipr := rfl
@[simp] theorem clearFatal_timeout (s : State) : (clearFatal s).timeout = s.timeout := rfl
@[simp] theorem clearFatal_time (s : State) : (clearFatal s).time = s.time := rfl
@[simp] theorem clearFatal_envTemp (s : State) : (clearFatal s).envTemp = s.envTemp := rfl
@[simp] theorem clearFatal_bathTemp (s : State) : (clearFatal s).bathTemp = s.bathTemp := rfl
@[simp] theorem clearFatal_target (s : State) : (clearFatal s).target = s.target := rfl
@[simp] theorem clearFatal_onTime (s : State) : (clearFatal s).onTime = s.onTime := rfl
@[simp] theorem clearFatal_kp (s : State) : (clearFatal s).kp = s.kp := rfl
@[simp] theorem clearFatal_ki (s : State) : (clearFatal s).ki = s.ki := rfl
@[simp] theorem clearFatal_kd (s : State) : (clearFatal s).kd = s.kd := rfl
@[simp] theorem clearFatal_errIn (s : State) : (clearFatal s).errIn = s.errIn := rfl
@[simp] theorem clearFatal_pidOut (s : State) : (clearFatal s).pidOut = s.pidOut := rfl
@[simp] theorem clearFatal_ci (s : State) : (clearFatal s).ci = s.ci := rfl
@[simp] theorem clearFatal_prevErr (s : State) : (clearFatal s).prevErr = s.prevErr := rfl
@[simp] theorem clearFatal_prevTime (s : State) : (clearFatal s).prevTime = s.prevTime := rfl
@[simp] theorem clearFatal_ecoef (s : State) : (clearFatal s).ecoef = s.ecoef := rfl
@[simp] theorem clearFatal_mscoef (s : State) : (clearFatal s).mscoef = s.mscoef := rfl
@[simp] theorem clearFatal_deficit (s : State) : (clearFatal s).deficit = s.deficit := rfl
@[simp] theorem clearFatal_lastOnTime (s : State) : (clearFatal s).lastOnTime = s.lastOnTime := rfl
@[simp] theorem clearFatal_cyclePeriod (s : State) : (clearFatal s).cyclePeriod = s.cyclePeriod := rfl
@[simp] theorem clearFatal_cksDiag (s : State) : (clearFatal s).cksDiag = s.cksDiag := rfl
@[simp] theorem clearFatal_cksAcc (s : State) : (clearFatal s).cksAcc = s.cksAcc := rfl
@[simp] theorem clearFatal_fsm (s : State) : (clearFatal s).fsm = s.fsm := rfl
@[simp] theorem clearFatal_op (s : State) : (clearFatal s).op = s.op := rfl
@[simp] theorem clearFatal_idx (s : State) : (clearFatal s).idx = s.idx := rfl
@[simp] theorem clearFatal_origin (s : State) : (clearFatal s).origin = s.origin := rfl
@[simp] theorem clearFatal_hostOp (s : State) : (clearFatal s).hostOp = s.hostOp := rfl
@[simp] theorem clearFatal_rxfifo (s : State) : (clearFatal s).rxfifo = s.rxfifo := rfl
@[simp] theorem clearFatal_acc (s : State) : (clearFatal s).acc = s.acc := rfl
@[simp] theorem clearFatal_pay (s : State) : (clearFatal s).pay = s.pay := rfl
@[simp] theorem clearFatal_trailer (s : State) : (clearFatal s).trailer = s.trailer := rfl
@[simp] theorem clearFatal_setVal (s : State) : (clearFatal s).setVal = s.setVal := rfl
@[simp] theorem clearFatal_eframe (s : State) : (clearFatal s).eframe = s.eframe := rfl
@[simp] theorem clearFatal_waitStart (s : State) : (clearFatal s).waitStart = s.waitStart := rfl
@[simp] theorem clearFatal_waitBound (s : State) : (clearFatal s).waitBound = s.waitBound := rfl
@[simp] theorem clearFatal_cycleStart (s : State) : (clearFatal s).cycleStart = s.cycleStart := rfl
@[simp] theorem clearFatal_loopPhase (s : State) : (clearFatal s).loopPhase = s.loopPhase := rfl
@[simp] theorem clearFatal_heatEntry (s : State) : (clearFatal s).heatEntry = s.heatEntry := rfl
@[simp] theorem clearFatal_snapE (s : State) : (clearFatal s).snapE = s.snapE := rfl
@[simp] theorem clearFatal_snapKp (s : State) : (clearFatal s).snapKp = s.snapKp := rfl
@[simp] theorem clearFatal_snapKi (s : State) : (clearFatal s).snapKi = s.snapKi := rfl
@[simp] theorem clearFatal_snapKd (s : State) : (clearFatal s).snapKd = s.snapKd := rfl
@[simp] theorem clearFatal_pendEnv (s : State) : (clearFatal s).pendEnv = s.pendEnv := rfl
@[simp] theorem clearFatal_pendBath (s : State) : (clearFatal s).pendBath = s.pendBath := rfl
@[simp] theorem clearFatal_linkUp (s : State) : (clearFatal s).linkUp = s.linkUp := rfl
@[simp] theorem clearFatal_busRdata (s : State) : (clearFatal s).busRdata = s.busRdata := rfl
@[simp] theorem clearFatal_wire (s : State) : (clearFatal s).wire = s.wire := rfl
@[simp] theorem clearFatal_collected (s : State) : (clearFatal s).collected = s.collected := rfl
@[simp] theorem clearFatal_pending (s : State) : (clearFatal s).pending = s.pending := rfl
@[simp] theorem clearFatal_draws (s : State) : (clearFatal s).draws = s.draws := rfl

end Sys2Proof.Machine
end

