-- ==== Sys2Proof/Laws/Ops.lean ====
section
/-! SUPPORT. One lemma per shared operation that says once everything it does. -/

namespace Sys2Proof.Machine

/-- A command is free to start where `CmdFree` holds. -/
theorem CmdFree.not_blocked {s : State} (h : CmdFree s) : cmdBlocked s = false := by
  simpa [cmdBlocked, CmdFree] using h

/-- `start_link` (42_protocol.md R96). -/
theorem startLink_eq (k : LinkOp) (s : State) :
    startLink k s = { s with
      rxfifo := if s.autoflush then [] else s.rxfifo
      op := k, idx := 0, acc := 0, fsm := .txEnq, waitStart := s.time, waitBound := s.timeout } := by
  cases h : s.autoflush <;> simp [startLink, enter, flushRx, h]

/-- Recording a fatal error (60_exceptions.md R129, R131). -/
theorem recordError_of_fatal {code : ErrCode} (h : code.isFatal = true) (phase : BitVec 3) (byte : Byte) (op : BitVec 4) (seq : Bool)
    (s : State) :
    recordError code phase byte op seq s = { s with
      errCause :=
        { code := code, phase := phase, nak := decide (code = .handshakeDenied ∧ byte = 0x15), byte := byte, op := op, seq := seq }
      ipr := s.ipr ||| iprFail
      fatal := true, session := .deviceError, loopEn := false, loopRun := false, loopPhase := .off } := by
  cases code <;> first | rfl | cases h

/-- Recording a command error (60_exceptions.md R129). -/
theorem recordError_of_cmd {code : ErrCode} (h : code = .illegalCmd ∨ code = .cmdRejected) (phase : BitVec 3) (byte : Byte)
    (op : BitVec 4) (seq : Bool) (s : State) :
    recordError code phase byte op seq s = { s with
      errCause := { code := code, phase := phase, nak := false, byte := byte, op := op, seq := seq }
      ipr := s.ipr ||| iprCmderr } := by
  rcases h with rfl | rfl <;> rfl

/-- Raising a fatal error (60_exceptions.md R130). -/
theorem raiseError_of_fatal {code : ErrCode} (h : code.isFatal = true) (phase : BitVec 3) (byte : Byte) (given : BitVec 4)
    (s : State) :
    raiseError code phase byte given s = { s with
      fsm := .idle, op := .none, idx := 0, origin := .none, hostOp := 0
      errCause :=
        { code := code, phase := phase, nak := decide (code = .handshakeDenied ∧ byte = 0x15), byte := byte
          op := errorOp s given, seq := decide (s.origin ≠ .host) }
      ipr := s.ipr ||| (if s.origin = .host ∨ s.origin = .cycleCmd then 0b00011 else 0b00010)
      fatal := true, session := .deviceError, loopEn := false, loopRun := false, loopPhase := .off } := by
  cases ho : s.origin <;>
    simp [raiseError, recordError_of_fatal h, ho, setIpr, iprFail, iprDone, BitVec.or_assoc]

/-- The on-time of the datapath is none, or within the clamp (44_thermal.md R116). -/
theorem onTimeStep_le {out m ms : Word} (h : onTimeStep out m = some ms) : ms.toNat ≤ Config.clampMax := by
  unfold onTimeStep at h
  generalize onTimeExact out m = x at h
  dsimp only at h
  split at h
  · cases h
  · split at h
    · cases h; decide
    · cases h
      rename_i h2
      rw [floorDiv_eq _ (by norm_num), modN]
      have h3 : ((BitVec.ofInt 32 (x / 2 ^ 32)).toNat : Int) = x / 2 ^ 32 := by
        rw [BitVec.toNat_ofInt]; simp only [Config.clampMax] at *; omega
      simp only [Config.clampMax] at *; omega

/-- The control computation where it runs the PID step (45_control_loop.md R121). -/
theorem controlCompute_of_heating {s : State} (h : s.session = .heating) (hd : deficitValue s > 0) :
    controlCompute s =
      (pidStep (deficitValue s) (sext s.kp) (sext s.ki) (sext s.kd) (deficitStep s),
        onTimeStep (pidStep (deficitValue s) (sext s.kp) (sext s.ki) (sext s.kd) s).pidOut s.mscoef) := by
  unfold controlCompute
  rw [if_pos h]; dsimp only; rw [if_pos hd]; rfl

/-- Everything a control computation leaves alone, and that what it commands is within the clamp (45_control_loop.md R121). -/
theorem sessionAtCycleStart_frame (s : State) :
    sessionAtCycleStart s = { s with
      session := (sessionAtCycleStart s).session, heatEntry := (sessionAtCycleStart s).heatEntry
      ci := (sessionAtCycleStart s).ci, prevErr := (sessionAtCycleStart s).prevErr
      prevTime := (sessionAtCycleStart s).prevTime } := by
  unfold sessionAtCycleStart pidClear
  dsimp only
  (repeat' split) <;> rfl

theorem controlCompute_frame (s : State) :
    (controlCompute s).1 = { s with
      deficit := (controlCompute s).1.deficit, pidSat := (controlCompute s).1.pidSat, ci := (controlCompute s).1.ci
      prevErr := (controlCompute s).1.prevErr, prevTime := (controlCompute s).1.prevTime
      pidOut := (controlCompute s).1.pidOut } := by
  unfold controlCompute deficitStep pidStep
  dsimp only
  (repeat' split) <;> rfl

theorem controlCompute_le {s : State} {ms : Word} (h : (controlCompute s).2 = some ms) : ms.toNat ≤ Config.clampMax := by
  unfold controlCompute at h
  split at h
  · dsimp only at h
    split at h
    · exact onTimeStep_le h
    · cases h
  · cases h

/-- A sequencer start with the link up (45_control_loop.md R121). -/
theorem seqStartLink_of_up {s : State} (k : LinkOp) (h : s.linkUp = true) : seqStartLink k s = startLink k s := by
  simp [seqStartLink, h]

theorem seqStartLink_of_down {s : State} (k : LinkOp) (h : s.linkUp = false) :
    seqStartLink k s = raiseError .connectionError 0 0 (if k = .read then 1 else 2) s := by
  simp [seqStartLink, h]

/-- The EXEC step of a cycle with the link up (45_control_loop.md R121). -/
theorem controlStep_of_up {s : State} (h : s.linkUp = true) :
    controlStep s = match controlCompute (sessionAtCycleStart s) with
      | (s1, some ms) => seqStartLink .set { s1 with setVal := ms }
      | (s1, none) => seqStartLink .read { s1 with loopPhase := .cycleRead } := by
  unfold controlStep
  generalize controlCompute (sessionAtCycleStart s) = p
  obtain ⟨v, ot⟩ := p
  cases ot <;> simp only [h, if_true]

/-- The EXEC step of a cycle with the link down: one error and nothing of the computation (60_exceptions.md R132). -/
theorem controlStep_of_down {s : State} (h : s.linkUp = false) :
    controlStep s = raiseError .connectionError 0 0 (if (controlCompute (sessionAtCycleStart s)).2 = none then 1 else 2) s := by
  unfold controlStep
  generalize controlCompute (sessionAtCycleStart s) = p
  obtain ⟨v, ot⟩ := p
  cases ot <;> simp [h, seqStartLink]

/-- The word offset alone selects the register; the address bits 1:0 are ignored (20_memory.md R57). -/
theorem Reg.ofOffset_of_word {a : BitVec 8} {r : Reg} (h : a.toNat / 4 * 4 = r.offset.toNat) : Reg.ofOffset a = some r := by
  have hn : (a.extractLsb' 2 6).toNat = r.offset.toNat / 4 := by
    have := a.isLt
    rw [BitVec.extractLsb'_toNat, Nat.shiftRight_eq_div_pow]
    omega
  unfold Reg.ofOffset
  rw [hn]
  cases r <;> rfl

/-- The reply positions are receiving states. -/
theorem Fsm.receiving_of_replying {f : Fsm} (h : f.replying = true) : f.receiving = true := by
  cases f <;> first | rfl | cases h

end Sys2Proof.Machine
end

