-- ==== Sys2Proof/Laws/Turn.lean ====
section
/-! SUPPORT. What one turn does, agent by agent, instruction or not: each fetched instruction is the agent's own step. -/

namespace Sys2Proof.Machine

/-- A step takes the first scheduled event (log 1). -/
theorem step_of_pending {s : State} {e : Event} {rest : List Event} (h : s.pending = e :: rest) :
    step s = turn e { s with pending := rest } := by
  simp [step, nextEvent, h]

/-- A step with nothing scheduled is a free draw (log 2). -/
theorem step_of_nil {s : State} (h : s.pending = []) :
    step s = turn (Config.freeEvent s.draws) { s with draws := s.draws + 1 } := by
  simp [step, nextEvent, h]

/-- A run whose first step answers a next state. -/
theorem run_succ (M : Host.Core) (n : Nat) (s t : M.State) (h : M.step s = .next t) : M.run (n + 1) s = M.run n t := by
  simp only [Host.Core.run, h]

@[simp] theorem turn_hostRead (a : BitVec 8) (s : State) : turn (.hostRead a) s = .next { s with busRdata := windowRead a s } := rfl
@[simp] theorem turn_hostNarrow (a : BitVec 8) (s : State) : turn (.hostNarrow a) s = .refused .narrowBusAccess := rfl
@[simp] theorem turn_deviceSend (b : Byte) (s : State) : turn (.deviceSend b) s = .next (deviceSend b s) := rfl
@[simp] theorem turn_tick (s : State) : turn .tick s = .next { s with time := s.time + 1 } := rfl
@[simp] theorem turn_link (up : Bool) (s : State) : turn (.link up) s = .next { s with linkUp := up } := rfl
@[simp] theorem turn_reset (s : State) : turn .reset s = .next (resetPulse s) := rfl

/-- A host write: a command, a byte for `CKS_ACC`, or a register write (30_encoding.md R73, 40_checksum.md R87, 20_memory.md R57). -/
theorem turn_hostWrite (a : BitVec 8) (v : Word) (s : State) :
    turn (.hostWrite a v) s =
      if Reg.ofOffset a = some .cmd then exec (decodeCmd v) s
      else if Reg.ofOffset a = some .cksData then .next { s with cksAcc := cksAdd s.cksAcc (v.extractLsb' 0 8) }
      else .next (windowWrite a v s) := by
  unfold turn fetch fetchUnit agentStep
  dsimp only
  cases h : Reg.ofOffset a with
  | none => simp
  | some r => cases r <;> simp [decode, exec, execCksDataWrite]

/-- `device_accept`, whichever byte is offered (41_devicelink.md R89). -/
theorem turn_deviceAccept (s : State) : turn .deviceAccept s = .next (deviceAccept s) := by
  unfold turn fetch fetchUnit agentStep
  cases h : s.fsm <;> try rfl
  · simp [h, offered, decode, decodeTx, exec, execTxReady, acceptControl]
  · by_cases ho : s.op = .read <;>
      simp [h, offered, ho, decode, decodeTx, exec, execTxTempRequest, execTxSetRequest, acceptControl]
  · simp [h, offered, decode, decodeTx, exec, execTxAccept, acceptControl]
  · dsimp only
    cases hs : frameSent s with
    | none => rfl
    | some bs =>
      simp only [Option.map_some, decode]
      cases hd : decodeElementFrame bs with
      | error _ => rfl
      | ok i =>
        obtain ⟨ms, rfl, rfl⟩ := decodeElementFrame_ok hd
        simp only [exec, execElementFrame, hs, if_true]

/-- A waiting reply stands in a reply state, where no frame is collected. -/
theorem fetch_engine_of_reply {s : State} {b : Byte} (h : replyByte s = some b) :
    fetch .engine s = some (decodeReply b) := by
  have hr : s.fsm.replying = true := by
    unfold replyByte at h
    split at h
    · assumption
    · cases h
  unfold fetch fetchUnit
  cases hf : s.fsm <;> simp_all [Fsm.replying, decode]

/-- The engine takes a waiting reply byte (42_protocol.md R97). -/
theorem turn_engine_of_reply {s : State} {b : Byte} (h : replyByte s = some b) :
    turn .engine s = .next (if b = 0x06 then acceptReply (popRx s) else denyReply b (popRx s)) := by
  unfold turn
  rw [fetch_engine_of_reply h]
  simp only [decodeReply]
  split_ifs with h1 h2 h3
  · subst h1; simp [exec, execRxAccept, takeReply, h]
  · subst h2; simp [exec, execRxDeny, takeReply, h]
  · subst h3; simp [exec, execEstopReserved, takeReply, h]
  · simp [exec, execRxOtherReply, takeReply, h]

/-- A frame is completed only where a byte waits in RX_FRAME (log 13). -/
theorem frameCompleted_some {s : State} {bs : List Byte} (h : frameCompleted s = some bs) :
    s.fsm = .rxFrame ∧ s.idx = 63 ∧ ∃ b rest, s.rxfifo = b :: rest ∧ bs = s.collected ++ [b] := by
  unfold frameCompleted at h
  split at h
  · rename_i hc
    cases hr : s.rxfifo with
    | nil => rw [hr] at h; cases h
    | cons b rest => rw [hr] at h; cases h; exact ⟨hc.1, hc.2, b, rest, rfl, rfl⟩
  · cases h

/-- The engine's other steps, the last byte of a temperature frame among them (42_protocol.md R97, R100, 41_devicelink.md R94,
45_control_loop.md R121 to R123). -/
theorem turn_engine_of_none {s : State} (h : replyByte s = none) : turn .engine s = engineStep s := by
  by_cases hf : s.fsm = .rxFrame
  · unfold turn fetch fetchUnit
    simp only [hf]
    cases hc : frameCompleted s with
    | none => rfl
    | some bs =>
      simp only [Option.map_some, decode]
      cases hd : decodeTempFrame bs with
      | error _ => rfl
      | ok i =>
        obtain ⟨env, bath, u, t, rfl, -, rfl⟩ := decodeTempFrame_ok hd
        obtain ⟨-, -, b, rest, hr, -⟩ := frameCompleted_some hc
        simp [exec, execTempFrame, hc, engineStep, hf, hr]
  · have hn : fetch .engine s = none := by
      unfold fetch fetchUnit
      cases hs : s.fsm <;> first | exact absurd hs hf | simp [h]
    simp only [turn, hn]; rfl

end Sys2Proof.Machine
end

