-- ==== Sys2Proof/Laws/Frame.lean ====
section
/-! SUPPORT. The frame of each agent's step: each equation lists the fields the step can change, and with it every other field is
unchanged. -/

namespace Sys2Proof.Machine

/-- A fatal error (60_exceptions.md R130). -/
theorem denyReply_frame (b : Byte) (s : State) :
    denyReply b s = { s with
      fsm := (denyReply b s).fsm, op := (denyReply b s).op, idx := (denyReply b s).idx
      origin := (denyReply b s).origin, hostOp := (denyReply b s).hostOp
      loopPhase := (denyReply b s).loopPhase, loopRun := (denyReply b s).loopRun
      loopEn := (denyReply b s).loopEn, ipr := (denyReply b s).ipr, errCause := (denyReply b s).errCause
      fatal := (denyReply b s).fatal, session := (denyReply b s).session } := by
  unfold denyReply
  rw [raiseError_of_fatal rfl]

/-- The timeout step (41_devicelink.md R94). -/
theorem timeoutStep_frame (s : State) :
    timeoutStep s = { s with
      fsm := (timeoutStep s).fsm, op := (timeoutStep s).op, idx := (timeoutStep s).idx
      origin := (timeoutStep s).origin, hostOp := (timeoutStep s).hostOp
      loopPhase := (timeoutStep s).loopPhase, loopRun := (timeoutStep s).loopRun
      loopEn := (timeoutStep s).loopEn, ipr := (timeoutStep s).ipr, errCause := (timeoutStep s).errCause
      fatal := (timeoutStep s).fatal, session := (timeoutStep s).session } := by
  unfold timeoutStep
  split
  · rw [raiseError_of_fatal rfl]
  · rfl

/-- A start by the sequencer or its failure (45_control_loop.md R121). -/
theorem seqStartLink_frame (k : LinkOp) (s : State) :
    seqStartLink k s = { s with
      fsm := (seqStartLink k s).fsm, op := (seqStartLink k s).op, idx := (seqStartLink k s).idx
      origin := (seqStartLink k s).origin, hostOp := (seqStartLink k s).hostOp
      loopPhase := (seqStartLink k s).loopPhase, loopRun := (seqStartLink k s).loopRun
      loopEn := (seqStartLink k s).loopEn, ipr := (seqStartLink k s).ipr
      errCause := (seqStartLink k s).errCause, fatal := (seqStartLink k s).fatal
      session := (seqStartLink k s).session, rxfifo := (seqStartLink k s).rxfifo, acc := (seqStartLink k s).acc
      waitStart := (seqStartLink k s).waitStart, waitBound := (seqStartLink k s).waitBound } := by
  unfold seqStartLink
  split
  · rw [startLink_eq]
  · rw [raiseError_of_fatal rfl]

/-- The end of a link operation (42_protocol.md R98, 45_control_loop.md R122). -/
theorem endLink_frame (r : LinkResult) (s : State) :
    endLink r s = { s with
      fsm := (endLink r s).fsm, op := (endLink r s).op, idx := (endLink r s).idx
      origin := (endLink r s).origin, hostOp := (endLink r s).hostOp, loopPhase := (endLink r s).loopPhase
      loopRun := (endLink r s).loopRun, loopEn := (endLink r s).loopEn, ipr := (endLink r s).ipr
      errCause := (endLink r s).errCause, fatal := (endLink r s).fatal, session := (endLink r s).session
      rxfifo := (endLink r s).rxfifo, acc := (endLink r s).acc, waitStart := (endLink r s).waitStart
      waitBound := (endLink r s).waitBound, cycleStart := (endLink r s).cycleStart } := by
  unfold endLink endHost sequencerContinue beginCycle loopStop seqStartLink
  simp only [startLink_eq, raiseError_of_fatal (code := .connectionError) rfl]
  (repeat' split) <;> rfl

/-- The reply 0x06 (42_protocol.md R97, R104). -/
theorem acceptReply_frame (s : State) :
    acceptReply s = { s with
      fsm := (acceptReply s).fsm, op := (acceptReply s).op, idx := (acceptReply s).idx
      origin := (acceptReply s).origin, hostOp := (acceptReply s).hostOp
      loopPhase := (acceptReply s).loopPhase, loopRun := (acceptReply s).loopRun
      loopEn := (acceptReply s).loopEn, ipr := (acceptReply s).ipr, errCause := (acceptReply s).errCause
      fatal := (acceptReply s).fatal, session := (acceptReply s).session, rxfifo := (acceptReply s).rxfifo
      acc := (acceptReply s).acc, waitStart := (acceptReply s).waitStart
      waitBound := (acceptReply s).waitBound, cycleStart := (acceptReply s).cycleStart
      eframe := (acceptReply s).eframe, lastOnTime := (acceptReply s).lastOnTime
      cksDiag := (acceptReply s).cksDiag, collected := (acceptReply s).collected } := by
  unfold acceptReply enter buildElementFrame
  dsimp only
  (repeat' split) <;> first | rfl | rw [endLink_frame]

/-- An acceptance by the device (41_devicelink.md R89, 42_protocol.md R102). -/
theorem deviceAccept_frame (s : State) :
    deviceAccept s = { s with
      fsm := (deviceAccept s).fsm, op := (deviceAccept s).op, idx := (deviceAccept s).idx
      origin := (deviceAccept s).origin, hostOp := (deviceAccept s).hostOp
      loopPhase := (deviceAccept s).loopPhase, loopRun := (deviceAccept s).loopRun
      loopEn := (deviceAccept s).loopEn, ipr := (deviceAccept s).ipr, errCause := (deviceAccept s).errCause
      fatal := (deviceAccept s).fatal, session := (deviceAccept s).session, rxfifo := (deviceAccept s).rxfifo
      acc := (deviceAccept s).acc, waitStart := (deviceAccept s).waitStart
      waitBound := (deviceAccept s).waitBound, cycleStart := (deviceAccept s).cycleStart
      wire := (deviceAccept s).wire, envTemp := (deviceAccept s).envTemp, bathTemp := (deviceAccept s).bathTemp
      fresh := (deviceAccept s).fresh } := by
  unfold deviceAccept afterAccept enter sendByte commitReading sessionOnFresh
  dsimp only
  (repeat' split) <;> first | rfl | rw [endLink_frame]

/-- A frame byte taken (42_protocol.md R100 to R103). -/
theorem rxFrameStep_frame (s : State) :
    rxFrameStep s = { s with
      fsm := (rxFrameStep s).fsm, op := (rxFrameStep s).op, idx := (rxFrameStep s).idx
      origin := (rxFrameStep s).origin, hostOp := (rxFrameStep s).hostOp
      loopPhase := (rxFrameStep s).loopPhase, loopRun := (rxFrameStep s).loopRun
      loopEn := (rxFrameStep s).loopEn, ipr := (rxFrameStep s).ipr, errCause := (rxFrameStep s).errCause
      fatal := (rxFrameStep s).fatal, session := (rxFrameStep s).session, rxfifo := (rxFrameStep s).rxfifo
      acc := (rxFrameStep s).acc, waitStart := (rxFrameStep s).waitStart
      waitBound := (rxFrameStep s).waitBound, cycleStart := (rxFrameStep s).cycleStart
      collected := (rxFrameStep s).collected, pay := (rxFrameStep s).pay, trailer := (rxFrameStep s).trailer
      pendEnv := (rxFrameStep s).pendEnv, pendBath := (rxFrameStep s).pendBath
      cksDiag := (rxFrameStep s).cksDiag, fresh := (rxFrameStep s).fresh } := by
  unfold rxFrameStep rxFrameByte verifyFrame stale enter setIpr sessionOnStale recordError
  dsimp only
  (repeat' split) <;> first | rfl | rw [endLink_frame]

/-- The start of the loop (45_control_loop.md R122). -/
theorem loopStart_frame (s : State) :
    loopStart s = { s with
      fsm := (loopStart s).fsm, op := (loopStart s).op, idx := (loopStart s).idx
      origin := (loopStart s).origin, hostOp := (loopStart s).hostOp, loopPhase := (loopStart s).loopPhase
      loopRun := (loopStart s).loopRun, loopEn := (loopStart s).loopEn, ipr := (loopStart s).ipr
      errCause := (loopStart s).errCause, fatal := (loopStart s).fatal, session := (loopStart s).session
      rxfifo := (loopStart s).rxfifo, acc := (loopStart s).acc, waitStart := (loopStart s).waitStart
      waitBound := (loopStart s).waitBound } := by
  unfold loopStart
  rw [seqStartLink_frame]

/-- The wait of the loop (45_control_loop.md R123). -/
theorem loopWaitStep_frame (s : State) :
    loopWaitStep s = { s with
      cycleStart := (loopWaitStep s).cycleStart, loopPhase := (loopWaitStep s).loopPhase
      fsm := (loopWaitStep s).fsm, loopRun := (loopWaitStep s).loopRun, origin := (loopWaitStep s).origin } := by
  unfold loopWaitStep beginCycle loopStop
  (repeat' split) <;> rfl

/-- The control computation and the start it decides (45_control_loop.md R121). -/
theorem controlStep_frame (s : State) :
    controlStep s = { s with
      fsm := (controlStep s).fsm, op := (controlStep s).op, idx := (controlStep s).idx
      origin := (controlStep s).origin, hostOp := (controlStep s).hostOp
      loopPhase := (controlStep s).loopPhase, loopRun := (controlStep s).loopRun
      loopEn := (controlStep s).loopEn, ipr := (controlStep s).ipr, errCause := (controlStep s).errCause
      fatal := (controlStep s).fatal, session := (controlStep s).session, rxfifo := (controlStep s).rxfifo
      acc := (controlStep s).acc, waitStart := (controlStep s).waitStart
      waitBound := (controlStep s).waitBound, setVal := (controlStep s).setVal
      deficit := (controlStep s).deficit, pidSat := (controlStep s).pidSat, ci := (controlStep s).ci
      prevErr := (controlStep s).prevErr, prevTime := (controlStep s).prevTime
      pidOut := (controlStep s).pidOut, heatEntry := (controlStep s).heatEntry } := by
  unfold controlStep
  have h1 := sessionAtCycleStart_frame s
  generalize sessionAtCycleStart s = u at h1 ⊢
  have h2 := controlCompute_frame u
  generalize controlCompute u = p at h2 ⊢
  obtain ⟨v, ot⟩ := p
  dsimp only at h2
  rw [h1] at h2
  cases ot with
  | none => dsimp only; rw [seqStartLink_frame]; split <;> first | rfl | rw [h2]
  | some ms => dsimp only; rw [seqStartLink_frame]; split <;> first | rfl | rw [h2]

/-- An arrival (41_devicelink.md R90). -/
theorem deviceSend_frame (b : Byte) (s : State) :
    deviceSend b s = { s with
      rxfifo := (deviceSend b s).rxfifo, rxOvf := (deviceSend b s).rxOvf } := by
  unfold deviceSend
  split <;> rfl

/-- The engine's step: it stops only in EXEC with no owner, and what it can change (10_state.md R18). -/
theorem turn_engine_frame {s t : State} (h : turn .engine s = .next t) : t = { s with
      fsm := t.fsm, op := t.op, idx := t.idx, origin := t.origin, hostOp := t.hostOp, loopPhase := t.loopPhase
      loopRun := t.loopRun, loopEn := t.loopEn, ipr := t.ipr, errCause := t.errCause, fatal := t.fatal
      session := t.session, rxfifo := t.rxfifo, acc := t.acc, waitStart := t.waitStart
      waitBound := t.waitBound, cycleStart := t.cycleStart, collected := t.collected, pay := t.pay
      trailer := t.trailer, pendEnv := t.pendEnv, pendBath := t.pendBath, cksDiag := t.cksDiag
      fresh := t.fresh, eframe := t.eframe, lastOnTime := t.lastOnTime, setVal := t.setVal
      deficit := t.deficit, pidSat := t.pidSat, ci := t.ci, prevErr := t.prevErr, prevTime := t.prevTime
      pidOut := t.pidOut, heatEntry := t.heatEntry } := by
  cases hr : replyByte s with
  | some b =>
    rw [turn_engine_of_reply hr] at h
    cases h
    split
    · rw [acceptReply_frame]; rfl
    · rw [denyReply_frame]; rfl
  | none =>
    rw [turn_engine_of_none hr] at h
    unfold engineStep execStep at h
    (repeat' split at h) <;> cases h <;>
      first
        | rfl
        | (rw [timeoutStep_frame])
        | (rw [controlStep_frame])
        | (rw [loopStart_frame])
        | (rw [loopWaitStep_frame])
        | (rw [rxFrameStep_frame])

/-- A command: it always answers a next state, and what it can change (30_encoding.md R73). -/
theorem exec_decodeCmd_frame (v : Word) (s : State) :
    ∃ t, exec (decodeCmd v) s = .next t ∧ t = { s with
      fsm := t.fsm, op := t.op, idx := t.idx, origin := t.origin, hostOp := t.hostOp, loopPhase := t.loopPhase
      loopRun := t.loopRun, loopEn := t.loopEn, ipr := t.ipr, errCause := t.errCause, fatal := t.fatal
      session := t.session, rxfifo := t.rxfifo, acc := t.acc, waitStart := t.waitStart
      waitBound := t.waitBound, cycleStart := t.cycleStart, setVal := t.setVal, snapE := t.snapE
      snapKp := t.snapKp, snapKi := t.snapKi, snapKd := t.snapKd } := by
  unfold decodeCmd
  generalize v.extractLsb' 0 4 = op
  generalize v.extractLsb' 4 28 = ign
  rcases bitVec4_cases op with h | h | h | h | h | h | h | h | h | h | h | h | h | h | h | h <;> subst h <;>
    refine ⟨_, rfl, ?_⟩ <;>
    simp only [acceptCmd, reservedCmd, rejectCmd, startLink_eq, recordError, goFatal, setIpr, flushRx] <;>
    (repeat' split) <;> rfl

end Sys2Proof.Machine
end

