-- ==== Sys2Proof/Laws/PerInstr.lean ====
section
/-! SUPPORT. Per instruction: the length its channel fixes (30_encoding.md R80). -/

namespace Sys2Proof.Laws.EncodeShape

/-- What stands at a channel has the length the channel fixes: one word at the two registers, one byte at the control and reply
positions, 64 bytes in a frame (30_encoding.md R80). -/
def fits : Channel × Raw → Prop
  | (.cmd, .word _) | (.cksData, .word _) => True
  | (.txControl, .bytes bs) | (.rxReply, .bytes bs) => bs.length = 1
  | (.rxFrame, .bytes bs) | (.txFrame, .bytes bs) => bs.length = 64
  | (.cmd, .bytes _) | (.cksData, .bytes _) | (.txControl, .word _) | (.rxReply, .word _) => False
  | (.rxFrame, .word _) | (.txFrame, .word _) => False

/-- A well-formed instruction's encoding fits its channel. -/
def Statement (i : Instr) : Prop := WellFormed i → fits (encode i)

theorem nop (ign : BitVec 28) : Statement (.nop ign) := fun _ => trivial

theorem readTemps (ign : BitVec 28) : Statement (.readTemps ign) := fun _ => trivial

theorem setElement (ign : BitVec 28) : Statement (.setElement ign) := fun _ => trivial

theorem pidCompute (ign : BitVec 28) : Statement (.pidCompute ign) := fun _ => trivial

theorem pidClear (ign : BitVec 28) : Statement (.pidClear ign) := fun _ => trivial

theorem cycle (ign : BitVec 28) : Statement (.cycle ign) := fun _ => trivial

theorem flush (ign : BitVec 28) : Statement (.flush ign) := fun _ => trivial

theorem reserved7 (ign : BitVec 28) : Statement (.reserved7 ign) := fun _ => trivial

theorem reserved8 (ign : BitVec 28) : Statement (.reserved8 ign) := fun _ => trivial

theorem reserved9 (ign : BitVec 28) : Statement (.reserved9 ign) := fun _ => trivial

theorem reservedA (ign : BitVec 28) : Statement (.reservedA ign) := fun _ => trivial

theorem reservedB (ign : BitVec 28) : Statement (.reservedB ign) := fun _ => trivial

theorem reservedC (ign : BitVec 28) : Statement (.reservedC ign) := fun _ => trivial

theorem reservedD (ign : BitVec 28) : Statement (.reservedD ign) := fun _ => trivial

theorem reservedE (ign : BitVec 28) : Statement (.reservedE ign) := fun _ => trivial

theorem reservedF (ign : BitVec 28) : Statement (.reservedF ign) := fun _ => trivial

theorem txReady : Statement .txReady := fun _ => rfl

theorem txTempRequest : Statement .txTempRequest := fun _ => rfl

theorem txSetRequest : Statement .txSetRequest := fun _ => rfl

theorem txAccept : Statement .txAccept := fun _ => rfl

theorem rxAccept : Statement .rxAccept := fun _ => rfl

theorem rxDeny : Statement .rxDeny := fun _ => rfl

theorem estopReserved : Statement .estopReserved := fun _ => rfl

theorem rxOtherReply (b : Byte) : Statement (.rxOtherReply b) := fun _ => rfl

theorem tempFrame (env bath : Half) (unused : List Byte) (trailer : Byte) : Statement (.tempFrame env bath unused trailer) := by
  intro h
  have hu : unused.length = 59 := by simpa [WellFormed, Instr.wf] using h
  simp [fits, encode, Machine.tempBytes, Machine.bytes16, hu]

theorem elementFrame (ms : Word) : Statement (.elementFrame ms) := fun _ => elementBytes_length ms

theorem cksDataWrite (byte : Byte) (ign : BitVec 24) : Statement (.cksDataWrite byte ign) := fun _ => trivial

end Sys2Proof.Laws.EncodeShape
end

