-- ==== Sys2Proof/Laws/Wire.lean ====
section
/-! SUPPORT. Single bytes on the wire: what one frame byte received or sent does, and the bits of the words that hold fields. -/

namespace Sys2Proof.Machine

/-- A frame byte before the trailer (42_protocol.md R100). -/
theorem rxFrameByte_of_le {s : State} (h : s.idx ≤ 62) (b : Byte) :
    rxFrameByte b s = { s with
      pay := if s.idx ≤ 3 then s.pay.setIfInBounds s.idx b else s.pay
      acc := cksAdd s.acc b, collected := s.collected ++ [b], idx := s.idx + 1 } := by
  unfold rxFrameByte
  by_cases h3 : s.idx ≤ 3 <;> simp [h3, h, show s.idx ≠ 63 by omega]

/-- The trailer (42_protocol.md R100, R101). -/
theorem rxFrameByte_of_eq {s : State} (h : s.idx = 63) (b : Byte) :
    rxFrameByte b s = verifyFrame { s with trailer := b, collected := s.collected ++ [b], idx := 64 } := by
  simp [rxFrameByte, h]

/-- The step of RX_FRAME where a byte is there (42_protocol.md R100). -/
theorem rxFrameStep_of_cons {s : State} (hf : s.fsm = .rxFrame) {b : Byte} {rest : List Byte} (hr : s.rxfifo = b :: rest) :
    rxFrameStep s = rxFrameByte b { s with rxfifo := rest } := by
  unfold rxFrameStep
  split
  · rename_i b' rest' _ hb; rw [hr] at hb; cases hb; rfl
  · rename_i hn; exact absurd hr (hn b rest hf)

/-- The FIFO has room for 65 bytes (00_scope.md R8). -/
theorem rxfDepth_ge : 65 ≤ Config.rxfDepth := Nat.le_add_right 65 _

/-- An arrival where there is room (41_devicelink.md R90). -/
theorem deviceSend_of_lt {s : State} (h : s.rxfifo.length < Config.rxfDepth) (b : Byte) :
    deviceSend b s = { s with rxfifo := s.rxfifo ++ [b] } := by
  simp [deviceSend, h]

/-- One byte of the element frame accepted (42_protocol.md R97). -/
theorem deviceAccept_of_txFrame {s : State} (hf : s.fsm = .txFrame) (hi : s.idx < 64) :
    deviceAccept s = afterAccept (sendByte s.eframe[s.idx] s) := by
  simp [deviceAccept, offered, hf, hi]

theorem bit_getLsbD (b : Bool) (j : Nat) : (bit b).getLsbD j = (decide (j = 0) && b) := by
  simp [bit, BitVec.getLsbD_ofBool]

/-- The bits of STATUS (10_state.md R25). -/
theorem statusWord_getLsbD (s : State) (i : Nat) : (statusWord s).getLsbD i =
    if i < 1 then busy s
    else if i < 3 then s.session.code.getLsbD (i - 1)
    else if i < 4 then s.fresh
    else if i < 5 then targetReached s
    else if i < 6 then s.loopRun
    else if i < 7 then s.fatal
    else if i < 8 then s.pidSat
    else if i < 9 then s.rxOvf
    else if i < 12 then false
    else if i < 16 then s.fsm.code.getLsbD (i - 12)
    else if i < 24 then (rxCount s).getLsbD (i - 16)
    else false := by
  rcases Nat.lt_or_ge i 32 with h | h
  · interval_cases i <;> (refine BitVec.getLsbD_append.trans ?_; simp only [BitVec.getLsbD_append, bit_getLsbD]; simp)
  · rw [BitVec.getLsbD_of_ge _ _ h]
    repeat rw [if_neg (by omega)]

/-- The bits of CTRL (10_state.md R24). -/
theorem ctrlWord_getLsbD (s : State) (i : Nat) : (ctrlWord s).getLsbD i =
    if i < 1 then s.start
    else if i < 2 then s.loopEn
    else if i < 3 then s.autoflush
    else if i < 4 then s.pidAutoclr
    else false := by
  rcases Nat.lt_or_ge i 32 with h | h
  · interval_cases i <;> (refine BitVec.getLsbD_append.trans ?_; simp only [BitVec.getLsbD_append, bit_getLsbD]; simp)
  · rw [BitVec.getLsbD_of_ge _ _ h]
    repeat rw [if_neg (by omega)]

/-- The bits of ERR_CAUSE (10_state.md R27). -/
theorem errWord_getLsbD (c : ErrCause) (i : Nat) : (errWord c).getLsbD i =
    if i < 4 then c.code.code.getLsbD i
    else if i < 7 then c.phase.getLsbD (i - 4)
    else if i < 8 then c.nak
    else if i < 16 then c.byte.getLsbD (i - 8)
    else if i < 20 then c.op.getLsbD (i - 16)
    else if i < 21 then c.seq
    else false := by
  rcases Nat.lt_or_ge i 32 with h | h
  · interval_cases i <;> (refine BitVec.getLsbD_append.trans ?_; simp only [BitVec.getLsbD_append, bit_getLsbD]; simp)
  · rw [BitVec.getLsbD_of_ge _ _ h]
    repeat rw [if_neg (by omega)]

/-- The bits of CKS_DIAG (10_state.md R44). -/
theorem diagWord_getLsbD (d : CksDiag) (i : Nat) : (diagWord d).getLsbD i =
    if i < 8 then d.computed.getLsbD i
    else if i < 16 then d.trailer.getLsbD (i - 8)
    else if i < 17 then d.matched
    else if i < 18 then d.dir
    else if i < 19 then d.valid
    else false := by
  rcases Nat.lt_or_ge i 32 with h | h
  · interval_cases i <;> (refine BitVec.getLsbD_append.trans ?_; simp only [BitVec.getLsbD_append, bit_getLsbD]; simp)
  · rw [BitVec.getLsbD_of_ge _ _ h]
    repeat rw [if_neg (by omega)]

end Sys2Proof.Machine
end

