-- ==== Sys2Proof/Tests/Slice0.lean ====
section
/-! SUPPORT. The model's own tests: expected values are written out from spec/30_encoding.md and spec/95_test_vectors.md. Then a
witness for each obligation that has hypotheses. -/

namespace Sys2Proof.Tests

open Sys2Proof.Machine

/-- What a field of the next state holds, none where the step stopped. -/
def after {α : Type} (f : State → α) (o : Host.Outcome State Fault Refusal) : Option α :=
  match o with
  | .next t => some (f t)
  | .fault _ => none
  | .refused _ => none

/-- 59 unused bytes of value 0. -/
def zeros : List Byte := List.replicate 59 0x00

/-- A host link operation standing in `f`. -/
def linkAt (f : Fsm) (k : LinkOp) : State :=
  { State.reset with fsm := f, op := k, origin := .host, hostOp := if k = .read then 0x1 else 0x2 }

/-- A host read that has taken the 63 bytes `16 17 00 0A`, 59 x `00`, whose checksum is 0x37; the trailer waits. -/
def lastByte (trailer : Byte) : State :=
  { linkAt .rxFrame .read with
    idx := 63, collected := 0x16 :: 0x17 :: 0x00 :: 0x0A :: zeros, acc := 0x37, pay := #v[0x16, 0x17, 0x00, 0x0A]
    rxfifo := [trailer] }

/-! ## WellFormed refuses ill-formed terms (30_encoding.md R75, R76, R79) -/

theorem test_wf_reply_accept_refused : (Instr.rxOtherReply 0x06).wf = false := by decide
theorem test_wf_reply_deny_refused : (Instr.rxOtherReply 0x15).wf = false := by decide
theorem test_wf_reply_estop_refused : (Instr.rxOtherReply 0x18).wf = false := by decide
theorem test_wf_short_frame_refused : (Instr.tempFrame 0 0 (List.replicate 58 0x00) 0).wf = false := by decide
theorem test_wf_long_frame_refused : (Instr.tempFrame 0 0 (List.replicate 60 0x00) 0).wf = false := by decide
theorem test_wf_frame_accepted : (Instr.tempFrame 0 0 zeros 0).wf = true := by decide

/-! ## Decoding: words written out from spec/30_encoding.md R72 to R79 and spec/40_checksum.md R87 -/

theorem test_decode_nop : decode .cmd (.word 0b00000000000000000000000000010000) = .ok (.nop 1) := by decide
theorem test_decode_readTemps : decode .cmd (.word 0b00000000000000000000000000000001) = .ok (.readTemps 0) := by decide
theorem test_decode_setElement : decode .cmd (.word 0b10000000000000000000000000000010) = .ok (.setElement 0x8000000) := by decide
theorem test_decode_pidCompute : decode .cmd (.word 0x00000013) = .ok (.pidCompute 1) := by decide
theorem test_decode_pidClear : decode .cmd (.word 0x00000004) = .ok (.pidClear 0) := by decide
theorem test_decode_cycle : decode .cmd (.word 0x00000005) = .ok (.cycle 0) := by decide
theorem test_decode_flush : decode .cmd (.word 0xFFFFFFF6) = .ok (.flush 0xFFFFFFF) := by decide
theorem test_decode_reserved7 : decode .cmd (.word 0x00000007) = .ok (.reserved7 0) := by decide
theorem test_decode_reserved8 : decode .cmd (.word 0x00000008) = .ok (.reserved8 0) := by decide
theorem test_decode_reserved9 : decode .cmd (.word 0x00000009) = .ok (.reserved9 0) := by decide
theorem test_decode_reservedA : decode .cmd (.word 0x0000000A) = .ok (.reservedA 0) := by decide
theorem test_decode_reservedB : decode .cmd (.word 0x0000000B) = .ok (.reservedB 0) := by decide
theorem test_decode_reservedC : decode .cmd (.word 0x0000000C) = .ok (.reservedC 0) := by decide
theorem test_decode_reservedD : decode .cmd (.word 0x0000000D) = .ok (.reservedD 0) := by decide
theorem test_decode_reservedE : decode .cmd (.word 0x0000000E) = .ok (.reservedE 0) := by decide
theorem test_decode_reservedF : decode .cmd (.word 0x0000000F) = .ok (.reservedF 0) := by decide
theorem test_decode_txReady : decode .txControl (.bytes [0b00000101]) = .ok .txReady := by decide
theorem test_decode_txTempRequest : decode .txControl (.bytes [0b00010001]) = .ok .txTempRequest := by decide
theorem test_decode_txSetRequest : decode .txControl (.bytes [0b00010010]) = .ok .txSetRequest := by decide
theorem test_decode_txAccept : decode .txControl (.bytes [0b00000110]) = .ok .txAccept := by decide
theorem test_decode_tx_neverSent : decode .txControl (.bytes [0b00011000]) = .error (.neverSent 0x18) := by decide
theorem test_decode_rxAccept : decode .rxReply (.bytes [0b00000110]) = .ok .rxAccept := by decide
theorem test_decode_rxDeny : decode .rxReply (.bytes [0b00010101]) = .ok .rxDeny := by decide
theorem test_decode_estop : decode .rxReply (.bytes [0b00011000]) = .ok .estopReserved := by decide
theorem test_decode_rxOther : decode .rxReply (.bytes [0b00000101]) = .ok (.rxOtherReply 0x05) := by decide
theorem test_decode_tempFrame :
    decode .rxFrame (.bytes (0x16 :: 0x17 :: 0x00 :: 0x0A :: (zeros ++ [0x37]))) = .ok (.tempFrame 0x1617 0x000A zeros 0x37) := by
  decide
theorem test_decode_elementFrame :
    decode .txFrame (.bytes (0x00 :: 0x00 :: 0x09 :: 0xC4 :: (zeros ++ [0xCD]))) = .ok (.elementFrame 2500) := by decide
theorem test_decode_elementFrame_badTrailer :
    decode .txFrame (.bytes (0x00 :: 0x00 :: 0x09 :: 0xC4 :: (zeros ++ [0xCC]))) = .error .badTrailer := by decide
theorem test_decode_cksData : decode .cksData (.word 0x000001FE) = .ok (.cksDataWrite 0xFE 1) := by decide
theorem test_decode_wrongKind : decode .cmd (.bytes [0x01]) = .error .wrongKind := by decide

/-! ## One step each, from spec/95_test_vectors.md -/

/-- EX4: OP 0 leaves a busy engine alone. -/
theorem test_nop_busy : exec (.nop 1) (linkAt .txEnq .read) = .next (linkAt .txEnq .read) := rfl
/-- PR1, LK5: the FIFO is discarded and 0x05 offered. -/
theorem test_readTemps : after (fun t => (t.fsm, t.op, t.origin, t.rxfifo, offered t))
    (exec (.readTemps 0) { State.reset with rxfifo := [0xAA] }) = some (.txEnq, .read, .host, [], some 0x05) := by decide
/-- EX6. -/
theorem test_readTemps_noLink : after (fun t => (errWord t.errCause, t.ipr, statusWord t))
    (exec (.readTemps 0) { State.reset with linkUp := false }) = some (0x00010004, 0x03, 0x44) := by decide
/-- S4, LK6: ON_TIME is sampled, and with AUTOFLUSH 0 the FIFO is kept. -/
theorem test_setElement : after (fun t => (t.fsm, t.op, t.setVal, t.rxfifo))
    (exec (.setElement 0) { State.reset with onTime := 2500, autoflush := false, rxfifo := [0xAA] }) =
      some (.txEnq, .set, 2500, [0xAA]) := by decide
/-- EX1. -/
theorem test_setElement_busy : after (fun t => (errWord t.errCause, t.ipr, t.fsm))
    (exec (.setElement 0) (linkAt .rxFrame .read)) = some (0x00020006, 0x08, .rxFrame) := by decide
/-- EX5, EX8: accepted without a link. -/
theorem test_pidCompute : after (fun t => ((statusWord t).extractLsb' 12 4, busy t, t.snapE, t.snapKp))
    (exec (.pidCompute 1) { State.reset with errIn := 0xFFFE8000, kp := 0x10000, linkUp := false }) =
      some (9, true, -98304, 65536) := by decide
/-- D-PID P8: the derivative quotient is truncated. -/
theorem test_pid_truncates : (pidStep (sext (0xFFFFFFFF : Word)) 0 0 65536 { State.reset with time := 3 }).pidOut = 0xFFFFAAAB := by
  decide
/-- D-PID P6b, P10: the output is floored and the integral saturates. -/
theorem test_pid_floors_and_saturates :
    (pidStep (sext (0xFFFFFFFF : Word)) 1 0 0 State.reset).pidOut = 0xFFFFFFFF ∧
    (pidStep 65536 0 65536 0 { State.reset with time := 1, ci := 0x7FFFFFFFFFFFFFFA }).ci = 0x7FFFFFFFFFFFFFFF := by decide
/-- D-PID PID_CLEAR: acceptance. -/
theorem test_pidClear : after (fun t => (t.fsm, t.hostOp, t.origin)) (exec (.pidClear 0) State.reset) = some (.exec, 4, .host) := by
  decide
/-- D-PID PID_CLEAR: the EXEC step. -/
theorem test_pidClear_exec : after (fun t => (t.ci, t.prevErr, t.prevTime, t.pidOut, t.ipr, t.fsm))
    (turn .engine { State.reset with
      fsm := .exec, origin := .host, hostOp := 0x4, ci := 0xA00000000, prevErr := 0xA0000, time := 0x10000, pidOut := 0xA0000 }) =
      some (0, 0, 0x10000, 0xA0000, 1, .idle) := by decide
/-- EX7. -/
theorem test_cycle_noLink : after (fun t => (errWord t.errCause, t.ipr, t.fatal))
    (exec (.cycle 0) { State.reset with linkUp := false }) = some (0x00150004, 0x03, true) := by decide
/-- S8, P4: the EXEC step of a heating cycle. -/
theorem test_cycle_exec : after (fun t => (t.deficit, t.pidOut, t.ci, t.setVal, t.op, t.session))
    (turn .engine { State.reset with
      fsm := .exec, origin := .cycleCmd, hostOp := 0x5, loopPhase := .cycleSet, start := true, fresh := true
      ecoef := 0x000131ED, mscoef := 0x00115C72, kp := 655, target := 6000, bathTemp := 2000, time := 0x50000 }) =
      some (0x12AC1720, 0x002FC64F, 0x00005D5C73A00000, 829, .set, .heating) := by decide
/-- LK2. -/
theorem test_flush : after (fun t => (statusWord t, t.ipr)) (exec (.flush 0) { State.reset with rxfifo := [0xAA, 0xBB] }) =
    some (0, 0x01) := by decide
/-- EX9. -/
theorem test_flush_loopRun : after (fun t => (errWord t.errCause, t.ipr, t.rxfifo))
    (exec (.flush 0) { State.reset with fsm := .loopWait, origin := .loop, loopRun := true, rxfifo := [0xAA] }) =
      some (0x00060006, 0x08, [0xAA]) := by decide
/-- EX2. -/
theorem test_reserved7 : after (fun t => (errWord t.errCause, t.ipr)) (exec (.reserved7 0) State.reset) =
    some (0x00070005, 0x08) := by decide
theorem test_reserved8 : after (fun t => (errWord t.errCause, t.ipr)) (exec (.reserved8 0) State.reset) =
    some (0x00080005, 0x08) := by decide
/-- D-EX: busy before reserved. -/
theorem test_reserved9_busy : after (fun t => errWord t.errCause) (exec (.reserved9 0) (linkAt .txEnq .read)) =
    some 0x00090006 := by decide
theorem test_reservedA : after (fun t => errWord t.errCause) (exec (.reservedA 0) State.reset) = some 0x000A0005 := by decide
theorem test_reservedB : after (fun t => errWord t.errCause) (exec (.reservedB 0) State.reset) = some 0x000B0005 := by decide
theorem test_reservedC : after (fun t => errWord t.errCause) (exec (.reservedC 0) State.reset) = some 0x000C0005 := by decide
theorem test_reservedD : after (fun t => errWord t.errCause) (exec (.reservedD 0) State.reset) = some 0x000D0005 := by decide
theorem test_reservedE : after (fun t => errWord t.errCause) (exec (.reservedE 0) State.reset) = some 0x000E0005 := by decide
/-- EX3. -/
theorem test_reservedF : after (fun t => (errWord t.errCause, t.ipr)) (exec (.reservedF 0) State.reset) =
    some (0x000F0005, 0x08) := by decide
/-- LK7. -/
theorem test_txReady : after (fun t => (t.wire, statusWord t, t.waitBound))
    (exec .txReady { linkAt .txEnq .read with timeout := 100 }) = some ([0x05], 0x00002001, 100) := by decide
theorem test_txTempRequest : after (fun t => (t.wire, t.fsm)) (exec .txTempRequest (linkAt .txReq .read)) =
    some ([0x11], .rxReqAck) := by decide
theorem test_txSetRequest : after (fun t => (t.wire, t.fsm)) (exec .txSetRequest (linkAt .txReq .set)) =
    some ([0x12], .rxReqAck) := by decide
/-- S3, PR1: the end of a good read. -/
theorem test_txAccept : after (fun t => (t.wire, t.envTemp, t.bathTemp, statusWord t, t.ipr))
    (exec .txAccept { linkAt .txFrameAck .read with pendEnv := 0x1617, pendBath := 0x000A }) =
      some ([0x06], 0x1617, 0x000A, 0x18, 0x01) := by decide
/-- S4: the frame of 2500 ms is built. -/
theorem test_rxAccept_builds : after (fun t => (diagWord t.cksDiag, t.lastOnTime, t.fsm, offered t))
    (exec .rxAccept { linkAt .rxReqAck .set with rxfifo := [0x06], setVal := 2500 }) =
      some (0x0007CDCD, 0x9C4, .txFrame, some 0x00) := by decide
theorem test_rxAccept_endsSet : after (fun t => (t.fsm, t.ipr, t.rxfifo))
    (exec .rxAccept { linkAt .rxFrameAck .set with idx := 64, rxfifo := [0x06, 0x15] }) = some (.idle, 0x01, [0x15]) := by decide
/-- PR2. -/
theorem test_rxDeny : after (fun t => (errWord t.errCause, t.ipr, statusWord t))
    (exec .rxDeny { linkAt .rxEnqAck .read with rxfifo := [0x15] }) = some (0x00011591, 0x03, 0x44) := by decide
/-- PR5. -/
theorem test_rxDeny_frame : after (fun t => errWord t.errCause)
    (exec .rxDeny { linkAt .rxFrameAck .set with idx := 64, rxfifo := [0x15] }) = some 0x000215B1 := by decide
/-- PR6. -/
theorem test_estop : after (fun t => (errWord t.errCause, t.ipr, statusWord t))
    (exec .estopReserved { linkAt .rxEnqAck .set with rxfifo := [0x18] }) = some (0x00021811, 0x03, 0x44) := by decide
/-- LK6. -/
theorem test_rxOther : after (fun t => (errWord t.errCause, statusWord t, t.ipr))
    (exec (.rxOtherReply 0xAA) { linkAt .rxEnqAck .read with rxfifo := [0xAA, 0x06] }) =
      some (0x0001AA11, 0x00010044, 0x03) := by decide
set_option maxRecDepth 4000 in
/-- S3: the good frame. -/
theorem test_tempFrame_good : after (fun t => (t.fsm, t.pendEnv, t.pendBath, diagWord t.cksDiag))
    (exec (.tempFrame 0x1617 0x000A zeros 0x37) (lastByte 0x37)) =
      some (.txFrameAck, 0x1617, 0x000A, 0x00053737) := by decide
set_option maxRecDepth 4000 in
/-- S3, PR7: the mutated frame. -/
theorem test_tempFrame_stale : after (fun t => (errWord t.errCause, diagWord t.cksDiag, t.ipr, statusWord t))
    (exec (.tempFrame 0x1617 0x000A zeros 0x38) (lastByte 0x38)) =
      some (0x00013842, 0x00043837, 0x05, 0x04) := by decide
set_option maxRecDepth 4000 in
/-- PR8: the last byte on the wire is 0x00. -/
theorem test_elementFrame : after (fun t => (t.fsm, t.wire))
    (exec (.elementFrame 0xFFFFFFFF) { linkAt .txFrame .set with idx := 63, eframe := elementVector 0xFFFFFFFF }) =
      some (.rxFrameAck, [0x00]) := by decide
/-- D-CK: 2 + 0xFE. -/
theorem test_cksDataWrite : after (fun t => t.cksAcc) (exec (.cksDataWrite 0xFE 1) { State.reset with cksAcc := 2 }) = some 1 := by
  decide

/-! ## Steps that are no instruction, from spec/95_test_vectors.md -/

/-- LK8. -/
theorem test_timeout : after (fun t => (errWord t.errCause, statusWord t, t.ipr))
    (turn .engine { linkAt .rxEnqAck .read with waitBound := 100, time := 100 }) = some (0x00010013, 0x44, 0x03) := by decide
/-- D-LINK: one byte a step, in RX_FRAME and in TX_FRAME. -/
theorem test_one_byte : after (fun t => (t.idx, t.acc, t.pay[0], t.rxfifo))
    (turn .engine { linkAt .rxFrame .read with rxfifo := [0x16, 0x17] }) = some (1, 0x16, 0x16, [0x17]) ∧
    after (fun t => (t.idx, t.wire)) (turn .deviceAccept { linkAt .txFrame .set with eframe := elementVector 2500, idx := 2 }) =
      some (3, [0x09]) := by decide
/-- LK12: a byte in the FIFO wins. -/
theorem test_byte_before_timeout : after (fun t => t.fsm)
    (turn .engine { linkAt .rxEnqAck .read with waitBound := 100, time := 100, rxfifo := [0x06] }) = some .txReq := by decide
/-- CL10. -/
theorem test_loopStart_noLink : after (fun t => (errWord t.errCause, t.ipr, ctrlWord t, statusWord t))
    (turn .engine { State.reset with loopEn := true, linkUp := false }) = some (0x00110004, 0x02, 0x4, 0x44) := by decide
/-- CL5. -/
theorem test_loopEn_ignored : after (fun t => ctrlWord t)
    (turn (.hostWrite 0x04 0x6) { State.reset with fatal := true, session := .deviceError }) = some 0x4 := by decide
/-- P2 step 12. -/
theorem test_clear_fatal : after (fun t => statusWord t)
    (turn (.hostWrite 0x08 0x40) { State.reset with fatal := true, session := .deviceError }) = some 0 := by decide
/-- EX12. -/
theorem test_irq : irq { State.reset with ipr := 0x1F, ier := 0x04 } = true ∧
    after irq (turn (.hostWrite 0x18 0x04) { State.reset with ipr := 0x1F, ier := 0x04 }) = some false := by decide
/-- S7: 0 ms, the exact clamp, one above it, and no actuation. -/
theorem test_onTime : onTimeStep 1 1 = some 0 ∧ onTimeStep 0x27100000 0x00010000 = some 10000 ∧
    onTimeStep 0x27100001 0x00010000 = some 10000 ∧ onTimeStep 0x00010000 0xFFFF0000 = none := by decide

/-! ## Table words -/

theorem test_table_cmd : decodeTableWord 4 0x3 = some (.pidCompute 0) := by decide
theorem test_table_ready : decodeTableWord 8 0x05 = some .txReady := by decide
theorem test_table_accept : decodeTableWord 8 0x06 = some .rxAccept := by decide
theorem test_table_reply : decodeTableWord 8 0x15 = some .rxDeny := by decide
theorem test_table_tx : decodeTableWord 8 0x12 = some .txSetRequest := by decide
theorem test_table_cksData : decodeTableWord 32 0x1FE = some (.cksDataWrite 0xFE 1) := by decide
theorem test_fetchWord_runs : step (State.reset.withFetchWord 8 0x15) = exec .rxDeny (positionFor .rxDeny State.reset) := rfl
set_option maxRecDepth 4000 in
theorem test_fetchWord_frame : after (fun t => (t.fsm, t.errCause.code)) (step (State.reset.withFetchWord 512 5)) =
    some (.idle, .checksumMismatch) := by decide
theorem test_fetchWord_cmd : step (State.reset.withFetchWord 32 0x2) = exec (.setElement 0) State.reset := rfl

/-! ## Witnesses: for each obligation with hypotheses, states and operands that meet them together, clause by clause -/

theorem witness_DecodeReadsEveryEncoding :
    WellFormed (.tempFrame 0xFFFF 0 zeros 0xFF) ∧ WellFormed (.rxOtherReply 0x00) ∧ WellFormed (.elementFrame 0xFFFFFFFF) ∧
    WellFormed (.cksDataWrite 0xFF 0xFFFFFF) ∧ WellFormed (.nop 0) ∧ WellFormed .txAccept := by decide
theorem witness_EncodingIsWhatWasDecoded :
    decode .cmd (.word 0xFFFFFFFF) = .ok (.reservedF 0xFFFFFFF) ∧ decode .rxReply (.bytes [0xFF]) = .ok (.rxOtherReply 0xFF) ∧
    decode .txControl (.bytes [0x06]) = .ok .txAccept ∧ decode .cksData (.word 0) = .ok (.cksDataWrite 0 0) ∧
    decode .rxFrame (.bytes (List.replicate 64 0x00)) = .ok (.tempFrame 0 0 zeros 0) ∧
    decode .txFrame (.bytes (List.replicate 64 0x00)) = .ok (.elementFrame 0) := by decide

theorem witness_CommandWhileBusyIsRejected :
    ((0xFFFFFFF1 : Word).extractLsb' 0 4 ≠ 0 ∧ busy (linkAt .rxFrameAck .set) = true) ∧
    ((0x0000000F : Word).extractLsb' 0 4 ≠ 0 ∧
      ∃ s : State, s = { State.reset with fsm := .loopWait, loopRun := true } ∧ busy s = false ∧ s.loopRun = true) :=
  ⟨by decide, by decide, _, rfl, rfl, rfl⟩
theorem witness_ReservedCommandIsIllegal : CmdFree { State.reset with fatal := true, session := .deviceError } := ⟨rfl, rfl⟩
theorem witness_LinkCommandsStartHandshake : CmdFree State.reset ∧ State.reset.linkUp = true := ⟨⟨rfl, rfl⟩, rfl⟩
theorem witness_PidComputeSnapshotsOperands : CmdFree { State.reset with linkUp := false, errIn := 0x80000000 } := ⟨rfl, rfl⟩
theorem witness_PidClearAndCycleEnterExec :
    CmdFree { State.reset with linkUp := false } ∧ CmdFree { State.reset with linkUp := true } := ⟨⟨rfl, rfl⟩, rfl, rfl⟩
theorem witness_FlushEmptiesFifo : CmdFree { State.reset with rxfifo := List.replicate 128 0x00 } := ⟨rfl, rfl⟩
theorem witness_LinkCommandWithoutLinkFails :
    ∃ s : State, s = { State.reset with linkUp := false } ∧ CmdFree s ∧ s.linkUp = false := ⟨_, rfl, ⟨rfl, rfl⟩, rfl⟩

theorem witness_ChecksumBlindSpots :
    ((0x00 : Byte) ≠ 0xFF ∧ cks [0x00] = cks [0xFF]) ∧ ((0xFE : Byte) ≠ 0xFF ∧ cks [0xFE] ≠ cks [0xFF]) ∧
    ((0x01 : Byte) ≠ 0x02 ∧ cks [0x01] ≠ cks [0x02]) ∧ ([0x01, 0x02] : List Byte).Perm [0x02, 0x01] := by
  refine ⟨by decide, by decide, by decide, ?_⟩
  exact List.Perm.swap _ _ _
theorem witness_CksDataWriteAddsByte :
    (0xFE : Byte).toNat < 255 ∧ ((0xFF : Byte) = 0x00 ∨ (0xFF : Byte) = 0xFF) ∧ (0 : Byte).toNat < 255 ∧
    (0x77 : BitVec 8).toNat / 4 * 4 = 0x74 ∧ (0x73 : BitVec 8).toNat / 4 * 4 = 0x70 := by decide

theorem witness_HandshakeByteIsSent :
    (linkAt .txEnq .read).fsm = .txEnq ∧ ((linkAt .txReq .read).fsm = .txReq ∧ (linkAt .txReq .read).op = .read) ∧
    ((linkAt .txReq .set).fsm = .txReq ∧ (linkAt .txReq .set).op ≠ .read) := by decide
theorem witness_FinalAcceptCommitsReading :
    (linkAt .txFrameAck .read).fsm = .txFrameAck ∧ (linkAt .txFrameAck .read).origin = .host := by decide
theorem witness_AcceptReplyMovesOn :
    (∃ s : State, s.rxfifo = 0x06 :: [] ∧ s.fsm = .rxEnqAck) ∧
    (∃ s : State, s.rxfifo = 0x06 :: [0xAA] ∧ s.fsm = .rxReqAck ∧ s.op = .read) ∧
    (∃ s : State, s.rxfifo = 0x06 :: [] ∧ s.fsm = .rxReqAck ∧ s.op ≠ .read) ∧
    (∃ s : State, s.rxfifo = 0x06 :: [] ∧ s.fsm = .rxFrameAck ∧ s.origin = .host) :=
  ⟨⟨{ linkAt .rxEnqAck .read with rxfifo := [0x06] }, by decide⟩, ⟨{ linkAt .rxReqAck .read with rxfifo := [0x06, 0xAA] }, by decide⟩,
    ⟨{ linkAt .rxReqAck .set with rxfifo := [0x06] }, by decide⟩, ⟨{ linkAt .rxFrameAck .set with rxfifo := [0x06] }, by decide⟩⟩
theorem witness_DeniedReplyEndsOperation :
    (∃ s : State, s.fsm.replying = true ∧ s.rxfifo = 0x15 :: [] ∧ s.fsm = .rxEnqAck) ∧
    (∃ s : State, s.fsm.replying = true ∧ s.rxfifo = 0x18 :: [] ∧ s.fsm = .rxReqAck) ∧
    (∃ s : State, s.fsm.replying = true ∧ s.rxfifo = 0xFF :: [0x06] ∧ s.fsm = .rxFrameAck) :=
  ⟨⟨{ linkAt .rxEnqAck .read with rxfifo := [0x15] }, by decide⟩, ⟨{ linkAt .rxReqAck .set with rxfifo := [0x18] }, by decide⟩,
    ⟨{ linkAt .rxFrameAck .set with rxfifo := [0xFF, 0x06] }, by decide⟩⟩
theorem witness_WireInstructionElsewhereIsIdle :
    (linkAt .txFrame .set).fsm ≠ .txEnq ∧ (linkAt .txReq .set).op ≠ .read ∧ (linkAt .txReq .read).op = .read ∧
    (linkAt .txEnq .read).fsm ≠ .txFrameAck ∧ (linkAt .txFrame .set).idx ≠ 63 ∧ (linkAt .rxFrame .read).idx ≠ 63 ∧
    (linkAt .rxFrame .read).fsm.replying = false ∧ (linkAt .rxEnqAck .read).rxfifo.head? ≠ some 0x06 := by
  decide

set_option maxRecDepth 4000 in
theorem cks_lastByte : cks (tempBody 0x1617 0x000A zeros) = 0x37 := by decide
theorem collected_lastByte (b : Byte) : FrameCollected 0x1617 0x000A zeros (lastByte b) := ⟨rfl, rfl, rfl, cks_lastByte.symm, rfl⟩
theorem witness_GoodTempFrameLeavesReadingPending :
    zeros.length = 59 ∧ FrameCollected 0x1617 0x000A zeros (lastByte 0x37) ∧
    (lastByte 0x37).rxfifo = cks (bytes16 0x1617 ++ (bytes16 0x000A ++ zeros)) :: [] :=
  ⟨rfl, collected_lastByte _, congrArg (· :: []) cks_lastByte.symm⟩
theorem witness_BadTempFrameIsStale :
    zeros.length = 59 ∧ FrameCollected 0x1617 0x000A zeros (lastByte 0xFF) ∧ (lastByte 0xFF).rxfifo = 0xFF :: [] ∧
    (lastByte 0xFF).origin = .host ∧ (0xFF : Byte) ≠ cks (bytes16 0x1617 ++ (bytes16 0x000A ++ zeros)) :=
  ⟨rfl, collected_lastByte _, rfl, rfl, fun h => absurd (h.trans cks_lastByte) (by decide)⟩
/-- One byte below the depth, and at it. -/
theorem witness_ArrivalJoinsFifoOrIsDropped :
    (∃ s : State, s.rxfifo.length + 1 = Config.rxfDepth ∧ s.rxfifo.length < Config.rxfDepth) ∧
    (∃ s : State, s.rxfifo.length = Config.rxfDepth ∧ Config.rxfDepth ≤ s.rxfifo.length) :=
  ⟨⟨{ State.reset with rxfifo := List.replicate (64 + Config.rxfDepthAbove65) 0x06 }, by simp [Config.rxfDepth]; omega⟩,
    ⟨{ State.reset with rxfifo := List.replicate Config.rxfDepth 0x06 }, by simp⟩⟩
/-- The one byte that leaves room for a frame at every depth. -/
theorem witness_UnawaitedFrameStaysInFifo :
    ∃ s : State, zeros.length = 59 ∧ s.rxfifo.length = 1 ∧ s.rxfifo.length + 64 ≤ Config.rxfDepth ∧ s.pending = [] :=
  ⟨{ State.reset with rxfifo := [0x06] }, rfl, rfl, Nat.le_add_right 65 _, rfl⟩
theorem witness_ElementFrameIsSentWhole :
    (∃ s : State, s.fsm = .txFrame ∧ s.eframe = elementVector 0xFFFFFFFF ∧ s.idx = 63) ∧
    (∃ s : State, s.fsm = .txFrame ∧ s.eframe = elementVector 0xFFFFFFFF ∧ s.idx = 0 ∧ s.pending = []) :=
  ⟨⟨{ linkAt .txFrame .set with eframe := elementVector 0xFFFFFFFF, idx := 63 }, rfl, rfl, rfl⟩,
    ⟨{ linkAt .txFrame .set with eframe := elementVector 0xFFFFFFFF }, rfl, rfl, rfl, rfl⟩⟩
theorem witness_FramesAreTheirSingleSteps :
    (∃ s : State, zeros.length = 59 ∧ s.fsm = .rxFrame ∧ s.idx = 0 ∧ s.acc = 0 ∧ s.collected = [] ∧ s.rxfifo = [] ∧ s.pending = []) ∧
    (∃ s : State, zeros.length = 59 ∧ s.fsm = .rxFrame ∧ s.idx = 0 ∧ s.acc = 0 ∧ s.collected = [] ∧
      s.rxfifo = tempBytes 0x1617 0x000A zeros 0x37 ++ [0xAA] ∧ s.pending = []) ∧
    (∃ s : State, s.fsm = .txFrame ∧ s.idx = 0 ∧ s.eframe = elementVector 2500 ∧ s.pending = []) :=
  ⟨⟨linkAt .rxFrame .read, rfl, rfl, rfl, rfl, rfl, rfl, rfl⟩,
    ⟨{ linkAt .rxFrame .read with rxfifo := tempBytes 0x1617 0x000A zeros 0x37 ++ [0xAA] }, rfl, rfl, rfl, rfl, rfl, rfl, rfl⟩,
    ⟨{ linkAt .txFrame .set with eframe := elementVector 2500 }, rfl, rfl, rfl, rfl⟩⟩

/-- The EXEC step of a host command is next. -/
def execNext (op : BitVec 4) : State := { State.reset with fsm := .exec, origin := .host, hostOp := op, pending := [.engine] }

theorem witness_PidComputeFollowsSixSteps :
    (execNext 0x3).pending = .engine :: [] ∧ (execNext 0x3).fsm = .exec ∧ (execNext 0x3).origin = .host ∧
    (execNext 0x3).hostOp = 0x3 := by decide
theorem witness_PidClearClearsRunningState :
    (execNext 0x4).pending = .engine :: [] ∧ (execNext 0x4).fsm = .exec ∧ (execNext 0x4).origin = .host ∧
    (execNext 0x4).hostOp = 0x4 := by decide
theorem witness_PidIntermediatesFit : inS32 (-2 ^ 31) ∧ inS32 (2 ^ 31 - 1) ∧ inS32 0 := by
  refine ⟨?_, ?_, ?_⟩ <;> constructor <;> decide
/-- 0, the smallest positive product, the clamp itself, and one above it. -/
theorem witness_OnTimeIsClamped :
    (0 : Word).toInt * (0xFFFFFFFF : Word).toInt ≤ 0 ∧
    (0 < (1 : Word).toInt * (1 : Word).toInt ∧ (1 : Word).toInt * (1 : Word).toInt ≤ 10000 * 2 ^ 32) ∧
    (0 < (0x27100000 : Word).toInt * (0x00010000 : Word).toInt ∧
      (0x27100000 : Word).toInt * (0x00010000 : Word).toInt = 10000 * 2 ^ 32) ∧
    (0x27100001 : Word).toInt * (0x00010000 : Word).toInt > 10000 * 2 ^ 32 := by decide

theorem witness_SessionAtCycleStartCases :
    (∃ s : State, s.fatal = true ∧ s.session = .deviceError) ∧
    (∃ s : State, s.fatal = false ∧ s.session = .idle ∧ s.start = true ∧ s.fresh = true ∧ s.pidAutoclr = false) ∧
    (∃ s : State, s.fatal = false ∧ s.session = .idle ∧ s.start = true ∧ s.fresh = true ∧ s.pidAutoclr = true) ∧
    (∃ s : State, s.fatal = false ∧ s.session = .heating ∧ s.start = false) ∧
    (∃ s : State, s.fatal = false ∧ s.session = .idle ∧ s.start = false ∧ s.fresh = true) ∧
    (∃ s : State, s.fatal = false ∧ s.session = .idle ∧ s.start = true ∧ s.fresh = false) ∧
    (∃ s : State, s.fatal = false ∧ s.session = .heating ∧ s.start = true) ∧
    (∃ s : State, s.fatal = false ∧ s.session = .deviceError) :=
  ⟨⟨{ State.reset with fatal := true, session := .deviceError }, by decide⟩,
    ⟨{ State.reset with start := true, fresh := true }, by decide⟩,
    ⟨{ State.reset with start := true, fresh := true, pidAutoclr := true }, by decide⟩,
    ⟨{ State.reset with session := .heating }, by decide⟩, ⟨{ State.reset with fresh := true }, by decide⟩,
    ⟨{ State.reset with start := true }, by decide⟩, ⟨{ State.reset with session := .heating, start := true }, by decide⟩,
    ⟨{ State.reset with session := .deviceError }, by decide⟩⟩

/-- The EXEC step of a cycle is next: heating, at a bath temperature of `bath`, with the target 6000. -/
def cycleNext (o : Origin) (bath : Half) (up : Bool) : State :=
  { State.reset with
    fsm := .exec, origin := o, hostOp := if o = .cycleCmd then 0x5 else 0, loopRun := decide (o = .loop), loopPhase := .cycleSet
    start := true, fresh := true, session := .heating, linkUp := up, pending := [.engine]
    ecoef := 0x000131ED, mscoef := 0x00115C72, kp := 655, target := 6000, bathTemp := bath }

/-- 60_exceptions.md R130 to R132: a heating cycle with a deficit, link down: SEQ 1 and OP 2, FAIL, and nothing of the computation. -/
theorem test_cycle_exec_noLink : after (fun t => (errWord t.errCause, t.ipr, statusWord t, t.deficit, t.pidOut, t.prevErr, t.setVal))
    (step (cycleNext .loop 2000 false)) = some (0x00120004, 0x02, 0x4C, 0, 0, 0, 0) := by decide

/-- A deficit of exactly 0, and a session that is not heating. -/
theorem witness_CycleWithoutDeficitOnlyReads :
    (∃ s : State, s.pending = .engine :: [] ∧ s.fsm = .exec ∧ (s.origin = .cycleCmd ∨ s.origin = .loop) ∧ s.linkUp = true ∧
      (sessionAtCycleStart s).session = .heating ∧ deficitValue (sessionAtCycleStart s) = 0) ∧
    (∃ s : State, s.pending = .engine :: [] ∧ s.fsm = .exec ∧ (s.origin = .cycleCmd ∨ s.origin = .loop) ∧ s.linkUp = true ∧
      (sessionAtCycleStart s).session ≠ .heating) :=
  ⟨⟨cycleNext .loop 6000 true, by decide⟩, ⟨{ cycleNext .cycleCmd 2000 true with start := false }, by decide⟩⟩
/-- A bath one step below the target, for both owners, and for both signs of the output. -/
theorem witness_HeatingCycleActuatesOnOutput :
    (∃ s : State, s.pending = .engine :: [] ∧ s.fsm = .exec ∧ s.origin = .cycleCmd ∧ s.linkUp = true ∧
      (sessionAtCycleStart s).session = .heating ∧ deficitValue (sessionAtCycleStart s) > 0 ∧
      (controlCompute (sessionAtCycleStart s)).2 ≠ none) ∧
    (∃ s : State, s.pending = .engine :: [] ∧ s.fsm = .exec ∧ s.origin = .loop ∧ s.linkUp = true ∧
      (sessionAtCycleStart s).session = .heating ∧ deficitValue (sessionAtCycleStart s) > 0 ∧
      (controlCompute (sessionAtCycleStart s)).2 = none) :=
  ⟨⟨cycleNext .cycleCmd 5999 true, by decide⟩, ⟨{ cycleNext .loop 5999 true with kp := 0xFFFFFD71 }, by decide⟩⟩
theorem witness_CycleWithoutLinkFails :
    (∃ s : State, s.pending = .engine :: [] ∧ s.fsm = .exec ∧ s.op = .none ∧ s.origin = .loop ∧ s.linkUp = false ∧
      (controlCompute (sessionAtCycleStart s)).2 ≠ none) ∧
    (∃ s : State, s.pending = .engine :: [] ∧ s.fsm = .exec ∧ s.op = .none ∧ s.origin = .cycleCmd ∧ s.linkUp = false ∧
      (controlCompute (sessionAtCycleStart s)).2 = none) :=
  ⟨⟨cycleNext .loop 2000 false, by decide⟩, ⟨cycleNext .cycleCmd 6000 false, by decide⟩⟩
theorem witness_LoopStartReadsFirst :
    (∃ s : State, s.pending = .engine :: [] ∧ s.fsm = .idle ∧ s.op = .none ∧
      ¬ (s.loopEn = true ∧ s.fatal = false ∧ s.loopRun = false)) ∧
    (∃ s : State, s.pending = .engine :: [] ∧ s.fsm = .idle ∧ s.op = .none ∧
      s.loopEn = true ∧ s.fatal = false ∧ s.loopRun = false ∧ s.linkUp = true) ∧
    (∃ s : State, s.pending = .engine :: [] ∧ s.fsm = .idle ∧ s.op = .none ∧
      s.loopEn = true ∧ s.fatal = false ∧ s.loopRun = false ∧ s.linkUp = false) :=
  ⟨⟨{ State.reset with pending := [.engine] }, by decide⟩, ⟨{ State.reset with pending := [.engine], loopEn := true }, by decide⟩,
    ⟨{ State.reset with pending := [.engine], loopEn := true, linkUp := false }, by decide⟩⟩
theorem witness_SequencerContinues :
    (∃ s : State, s.origin ≠ .host ∧ s.loopPhase = .initRead ∧ s.loopEn = true) ∧
    (∃ s : State, s.origin ≠ .host ∧ s.loopPhase = .initRead ∧ s.loopEn = false) ∧
    (∃ s : State, s.origin ≠ .host ∧ s.loopPhase = .cycleSet ∧ s.linkUp = true) ∧
    (∃ s : State, s.origin ≠ .host ∧ s.loopPhase = .cycleSet ∧ s.linkUp = false) ∧
    (∃ s : State, s.origin ≠ .host ∧ s.loopPhase = .cycleRead ∧ s.origin = .cycleCmd) ∧
    (∃ s : State, s.origin ≠ .host ∧ s.loopPhase = .cycleRead ∧ s.origin ≠ .cycleCmd) :=
  ⟨⟨{ State.reset with origin := .loop, loopPhase := .initRead, loopEn := true }, by decide⟩,
    ⟨{ State.reset with origin := .loop, loopPhase := .initRead }, by decide⟩,
    ⟨{ State.reset with origin := .loop, loopPhase := .cycleSet }, by decide⟩,
    ⟨{ State.reset with origin := .loop, loopPhase := .cycleSet, linkUp := false }, by decide⟩,
    ⟨{ State.reset with origin := .cycleCmd, loopPhase := .cycleRead }, by decide⟩,
    ⟨{ State.reset with origin := .loop, loopPhase := .cycleRead }, by decide⟩⟩
/-- The period is reached at equality, across a wrap of TIME. -/
theorem witness_LoopWaitStep :
    (∃ s : State, s.pending = .engine :: [] ∧ s.fsm = .loopWait ∧ s.loopEn = false) ∧
    (∃ s : State, s.pending = .engine :: [] ∧ s.fsm = .loopWait ∧ s.loopEn = true ∧
      s.cyclePeriod.toNat = (s.time - s.cycleStart).toNat) ∧
    (∃ s : State, s.pending = .engine :: [] ∧ s.fsm = .loopWait ∧ s.loopEn = true ∧
      (s.time - s.cycleStart).toNat < s.cyclePeriod.toNat) :=
  ⟨⟨{ State.reset with pending := [.engine], fsm := .loopWait }, by decide⟩,
    ⟨{ State.reset with
      pending := [.engine], fsm := .loopWait, loopEn := true, cyclePeriod := 16, cycleStart := 0xFFFFFFF8, time := 8 }, by decide⟩,
    ⟨{ State.reset with
      pending := [.engine], fsm := .loopWait, loopEn := true, cyclePeriod := 16, cycleStart := 0xFFFFFFF8, time := 7 }, by decide⟩⟩

theorem witness_RecordErrorOverwritesCause :
    ErrCode.handshakeDenied.isFatal = true ∧ ErrCode.timeout.isFatal = true ∧ ErrCode.connectionError.isFatal = true ∧
    ErrCode.illegalCmd.isFatal = false ∧ ErrCode.cmdRejected.isFatal = false ∧ ErrCode.checksumMismatch.isFatal = false := by decide
/-- The bound reached at equality, a bound of 0, and one tick before the bound. -/
theorem witness_TimeoutEndsWait :
    (∃ s : State, s.pending = .engine :: [] ∧ s.fsm.receiving = true ∧ s.rxfifo = [] ∧ s.waitBound ≠ 0 ∧
      s.waitBound.toNat = (s.time - s.waitStart).toNat) ∧
    (∃ s : State, s.pending = .engine :: [] ∧ s.fsm.sending = true ∧ s.fsm.receiving = false ∧ s.waitBound = 0) ∧
    (∃ s : State, s.pending = .engine :: [] ∧ s.fsm.sending = true ∧ s.fsm.receiving = false ∧
      (s.time - s.waitStart).toNat < s.waitBound.toNat) :=
  ⟨⟨{ linkAt .rxFrame .read with pending := [.engine], waitBound := 100, waitStart := 0xFFFFFFFF, time := 99 }, by decide⟩,
    ⟨{ linkAt .txFrame .set with pending := [.engine] }, by decide⟩,
    ⟨{ linkAt .txEnq .set with pending := [.engine], waitBound := 100, time := 99 }, by decide⟩⟩

/-! ## Witnesses about the whole machine -/

/-- A state a fatal error leaves, with the loop asked for. -/
def fatalState : State := { State.reset with fatal := true, session := .deviceError, pending := [.hostWrite 0x04 0x2] }

theorem inv_fatalState : Machine.Inv fatalState :=
  ⟨by decide, by decide, Nat.zero_le _, by decide, by decide, by simp [contextOk, fatalState, State.reset], by decide, by decide,
    by decide, by simp [inS32, fatalState, State.reset]⟩
theorem witness_FatalErrorPinsSession :
    Machine.Inv fatalState ∧ fatalState.fatal = true ∧ clearsFatal (.hostWrite 0x04 0x2) = false ∧
    Event.hostWrite 0x04 0x2 ≠ .reset ∧ ∃ t, turn (.hostWrite 0x04 0x2) fatalState = .next t :=
  ⟨inv_fatalState, by decide, by decide, by decide, _, rfl⟩
theorem witness_StepKeepsInvariant : Machine.Inv fatalState ∧ ∃ t, step fatalState = .next t := ⟨inv_fatalState, _, rfl⟩
theorem witness_SafeStatesNeverStop : Machine.Inv fatalState ∧ ∀ a, Event.engine ≠ .hostNarrow a :=
  ⟨inv_fatalState, by intro a h; cases h⟩

/-- A CYCLE command whose request for its element frame the device has accepted. -/
def cycleSends : State :=
  { State.reset with
    fsm := .rxReqAck, op := .set, origin := .cycleCmd, hostOp := 0x5, loopPhase := .cycleSet
    setVal := 10000, rxfifo := [0x06], pending := [.engine] }

theorem inv_cycleSends : Machine.Inv cycleSends :=
  ⟨by decide, by decide, Nat.le_trans (by decide) (Nat.le_add_right 65 _), by decide, by decide,
    by simp [contextOk, linkOwned, cycleSends, State.reset], by decide, by decide, by decide, by simp [inS32, cycleSends, State.reset]⟩
theorem witness_SequencerFramesAreClamped :
    Machine.Inv cycleSends ∧ ∃ t, step cycleSends = .next t ∧ t.fsm = .txFrame ∧ t.origin ≠ .host :=
  ⟨inv_cycleSends, _, rfl, rfl, by decide⟩

/-- A read that takes its first frame bytes: the invariant of the collected bytes is not empty. -/
theorem witness_inv_collecting :
    ∃ s : State, Machine.Inv s ∧ s.fsm = .rxFrame ∧ s.idx = 63 ∧ ∃ t, step s = .next t ∧ t.fsm = .txFrameAck :=
  ⟨{ lastByte 0x37 with pending := [.engine] },
    ⟨by decide, by decide, Nat.le_trans (by decide) (Nat.le_add_right 65 _), by decide, by decide,
      by simp [contextOk, linkOwned, lastByte, linkAt, State.reset], by decide,
      fun _ => ⟨rfl, cks_lastByte.symm, by decide⟩, by decide, by simp [inS32, lastByte, linkAt, State.reset]⟩, rfl, rfl, _, rfl, rfl⟩

theorem witness_HostReadHasNoSideEffect : 0x78 ≤ (0x78 : BitVec 8).toNat ∧ 0x78 ≤ (0xFF : BitVec 8).toNat := by decide
/-- The lowest and the highest address of a word. -/
theorem witness_ControlAndClearingWrites :
    (0x07 : BitVec 8).toNat / 4 * 4 = 0x04 ∧ (0x08 : BitVec 8).toNat / 4 * 4 = 0x08 ∧ (0x0B : BitVec 8).toNat / 4 * 4 = 0x08 ∧
    (0x13 : BitVec 8).toNat / 4 * 4 = 0x10 ∧ (0x1B : BitVec 8).toNat / 4 * 4 = 0x18 ∧ (0x73 : BitVec 8).toNat / 4 * 4 = 0x70 := by
  decide
theorem witness_RegisterWritesChangeOneRegister :
    (∀ w ∈ [0x14, 0x1C, 0x2C, 0x30, 0x34, 0x38, 0x3C, 0x40, 0x58, 0x5C, 0x68],
      (BitVec.ofNat 8 w).toNat / 4 * 4 = w ∧ (BitVec.ofNat 8 (w + 3)).toNat / 4 * 4 = w) ∧
    (0x03 : BitVec 8).toNat / 4 * 4 ∈ [0x00, 0x20, 0x24, 0x28, 0x44, 0x48, 0x4C, 0x50, 0x54, 0x60, 0x64, 0x6C] ∧
    (0x6F : BitVec 8).toNat / 4 * 4 ∈ [0x00, 0x20, 0x24, 0x28, 0x44, 0x48, 0x4C, 0x50, 0x54, 0x60, 0x64, 0x6C] ∧
    0x78 ≤ (0x78 : BitVec 8).toNat := by decide
theorem witness_OnlyTicksAdvanceTime :
    (∃ t, turn .tick { State.reset with time := 0xFFFFFFFF } = .next t) ∧
    Event.engine ≠ .tick ∧ Event.engine ≠ .reset ∧ ∃ t, turn .engine State.reset = .next t :=
  ⟨⟨_, rfl⟩, by decide, by decide, _, rfl⟩
/-- A write of ERR_IN writes no other operand; one of ON_TIME writes no ERR_IN. -/
theorem witness_OnlyHostWritesOperands :
    (∃ t, turn (.hostWrite 0x40 1) State.reset = .next t) ∧ Event.hostWrite 0x40 1 ≠ .reset ∧
    (∀ r ∈ [Reg.kp, .ki, .kd, .onTime, .target, .ecoef, .mscoef, .timeout, .cyclePeriod, .ier],
      writesReg (.hostWrite 0x40 1) r = false) ∧ writesReg (.hostWrite 0x30 1) .errIn = false :=
  ⟨⟨_, rfl⟩, by decide, by decide, by decide⟩
theorem witness_OnlyCommitChangesTemperatures :
    (∃ t, turn .deviceAccept (linkAt .txFrameAck .read) = .next t) ∧ Event.deviceAccept ≠ .reset := ⟨⟨_, rfl⟩, by decide⟩
theorem witness_OnlyExecChangesIntegral :
    (∃ t, turn .engine (linkAt .rxFrame .read) = .next t) ∧ Event.engine ≠ .reset ∧
    ¬ (Event.engine = .engine ∧ (linkAt .rxFrame .read).fsm = .exec) := ⟨⟨_, rfl⟩, by decide, by decide⟩
theorem witness_WireGrowsOnlyByOfferedBytes :
    (Event.tick ≠ .deviceAccept ∧ ∃ t, turn .tick State.reset = .next t) ∧
    (∃ t, turn .deviceAccept (linkAt .txEnq .read) = .next t) ∧
    ((linkAt .txReq .set).fsm ≠ .txFrame ∧ offered (linkAt .txReq .set) = some 0x12) ∧
    ((linkAt .txFrame .set).fsm = .txFrame ∧ (linkAt .txFrame .set).idx + 64 ≤ 64 ∧ (linkAt .txFrame .set).pending = []) :=
  ⟨⟨by decide, _, rfl⟩, ⟨_, rfl⟩, by decide, by decide⟩
theorem witness_CommandInFlightIgnoresLinkAndOperands :
    ((linkAt .txEnq .set).origin = .host ∧ (linkAt .txEnq .set).fsm ≠ .idle ∧
      (∃ t, turn .engine (linkAt .txEnq .set) = .next t) ∧ (∃ t, turn .deviceAccept (linkAt .txEnq .set) = .next t) ∧
      (∃ t, turn (.deviceSend 0x06) (linkAt .txEnq .set) = .next t) ∧ ∃ t, turn .tick (linkAt .txEnq .set) = .next t) ∧
    (∃ s : State, s.fsm ≠ .idle ∧ s.fsm ≠ .exec ∧ s.fsm ≠ .loopWait ∧ s.origin = .loop ∧
      (s.loopPhase = .cycleSet → s.fsm ≠ .rxFrame ∧ s.fsm ≠ .txFrameAck ∧ s.fsm ≠ .rxFrameAck) ∧
      ∃ t, turn .engine s = .next t) :=
  ⟨⟨by decide, by decide, ⟨_, rfl⟩, ⟨_, rfl⟩, ⟨_, rfl⟩, _, rfl⟩,
    { linkAt .rxReqAck .set with origin := .loop, loopRun := true, loopPhase := .cycleSet, rxfifo := [0x06] },
    by decide, by decide, by decide, rfl, by decide, _, rfl⟩
theorem witness_StepRunsDecodedInstruction :
    (∃ s : State, s.pending = .hostWrite 0x0C 0x13 :: [] ∧
      fetch (.hostWrite 0x0C 0x13) { s with pending := [] } = some (.pidCompute 1)) ∧
    (∃ s : State, s.pending = .hostWrite 0x0F 0x13 :: [] ∧ (0x0F : BitVec 8).toNat / 4 * 4 = 0x0C) ∧
    (∃ s : State, s.pending = .hostWrite 0x77 0xFF :: [] ∧ (0x77 : BitVec 8).toNat / 4 * 4 = 0x74) :=
  ⟨⟨{ State.reset with pending := [.hostWrite 0x0C 0x13] }, rfl, by decide⟩,
    ⟨{ State.reset with pending := [.hostWrite 0x0F 0x13] }, rfl, by decide⟩,
    ⟨{ State.reset with pending := [.hostWrite 0x77 0xFF] }, rfl, by decide⟩⟩
/-- A reply in each reply state, in one of them after its wait has reached its bound. -/
theorem witness_StepRunsDecodedInstruction_replies :
    (∃ s : State, s.pending = .engine :: [] ∧ s.fsm = .rxEnqAck ∧ s.rxfifo = 0x15 :: [0x06]) ∧
    (∃ s : State, s.pending = .engine :: [] ∧ s.fsm = .rxReqAck ∧ s.rxfifo = 0x06 :: [] ∧
      s.waitBound ≠ 0 ∧ s.waitBound.toNat ≤ (s.time - s.waitStart).toNat) ∧
    (∃ s : State, s.pending = .engine :: [] ∧ s.fsm = .rxFrameAck ∧ s.rxfifo = 0xFF :: []) :=
  ⟨⟨{ linkAt .rxEnqAck .read with pending := [.engine], rxfifo := [0x15, 0x06] }, rfl, rfl, rfl⟩,
    ⟨{ linkAt .rxReqAck .set with pending := [.engine], rxfifo := [0x06], waitBound := 100, time := 100 }, by decide⟩,
    ⟨{ linkAt .rxFrameAck .set with pending := [.engine], rxfifo := [0xFF] }, rfl, rfl, rfl⟩⟩
/-- The device's acceptance in each state that offers a control byte, and the last byte of each frame. -/
theorem witness_StepRunsDecodedInstruction_sent :
    (∃ s : State, s.pending = .deviceAccept :: [] ∧ s.fsm = .txEnq) ∧
    (∃ s : State, s.pending = .deviceAccept :: [] ∧ s.fsm = .txReq ∧ s.op = .read) ∧
    (∃ s : State, s.pending = .deviceAccept :: [] ∧ s.fsm = .txReq ∧ s.op ≠ .read) ∧
    (∃ s : State, s.pending = .deviceAccept :: [] ∧ s.fsm = .txFrameAck) ∧
    (∃ s : State, s.pending = .deviceAccept :: [] ∧ s.fsm = .txFrame ∧ s.idx = 63 ∧ s.eframe = elementVector 0xFFFFFFFF) ∧
    (∃ s : State, s.pending = .engine :: [] ∧ zeros.length = 59 ∧ s.fsm = .rxFrame ∧ s.idx = 63 ∧
      s.collected = tempBody 0x1617 0x000A zeros ∧ s.rxfifo = 0x37 :: []) :=
  ⟨⟨{ linkAt .txEnq .read with pending := [.deviceAccept] }, rfl, rfl⟩,
    ⟨{ linkAt .txReq .read with pending := [.deviceAccept] }, rfl, rfl, rfl⟩,
    ⟨{ linkAt .txReq .set with pending := [.deviceAccept] }, by decide⟩,
    ⟨{ linkAt .txFrameAck .read with pending := [.deviceAccept] }, rfl, rfl⟩,
    ⟨{ linkAt .txFrame .set with pending := [.deviceAccept], eframe := elementVector 0xFFFFFFFF, idx := 63 }, rfl, rfl, rfl, rfl⟩,
    ⟨{ lastByte 0x37 with pending := [.engine] }, rfl, rfl, rfl, rfl, rfl, rfl⟩⟩
theorem witness_PlacedInstructionRunsNext : WellFormed (.tempFrame 0 0 zeros 0xFF) ∧ WellFormed (.rxOtherReply 0x05) := by decide

end Sys2Proof.Tests
end

section
/-! PROOFS. Runs over a schedule: how the machine takes a scheduled step, and what a step that carries an instruction runs. -/

namespace Sys2Proof.Machine

/-- A run that starts with a scheduled step. -/
theorem run_scheduled {e : Event} {rest : List Event} {s t : State} (n : Nat) (hp : s.pending = e :: rest)
    (h : turn e { s with pending := rest } = .next t) : Sys2Proof.core.run (n + 1) s = Sys2Proof.core.run n t :=
  run_succ Sys2Proof.core n s t ((step_of_pending hp).trans h)

/-- A run of one step is the step. -/
theorem run_one (s : State) : Sys2Proof.core.run 1 s = step s := by
  change Sys2Proof.core.run 1 s = Sys2Proof.core.step s
  simp only [Host.Core.run]
  cases Sys2Proof.core.step s <;> rfl

/-- A run goes on from the state its first part leads to. -/
theorem run_add {m : Nat} (n : Nat) {s t : State} (h : Sys2Proof.core.run m s = .next t) :
    Sys2Proof.core.run (m + n) s = Sys2Proof.core.run n t := by
  induction m generalizing s with
  | zero => cases h; rw [Nat.zero_add]
  | succ m ih =>
    rw [Nat.succ_add]
    simp only [Host.Core.run] at h ⊢
    cases hs : Sys2Proof.core.step s with
    | next s' => rw [hs] at h; exact ih h
    | fault r => rw [hs] at h; cases h
    | refused r => rw [hs] at h; cases h

/-- A turn that fetches an instruction runs it (00_scope.md R4). -/
theorem turn_of_fetch {e : Event} {s : State} {i : Instr} (h : fetch e s = some i) : turn e s = exec i s := by
  simp only [turn, h]

/-- A step runs the instruction that the first scheduled event brings (00_scope.md R4, log 1). -/
theorem step_of_fetch {e : Event} {rest : List Event} {s : State} {i : Instr} (hp : s.pending = e :: rest)
    (h : fetch e { s with pending := rest } = some i) : step s = exec i { s with pending := rest } :=
  (step_of_pending hp).trans (turn_of_fetch h)

/-- What a unit that decodes makes of a fetch. -/
theorem fetch_of_unit {e : Event} {s : State} {ch : Channel} {raw : Raw} {i : Instr} (hu : fetchUnit e s = some (ch, raw))
    (hd : decode ch raw = .ok i) : fetch e s = some i := by
  simp only [fetch, hu, hd]

/-- A write to CMD brings its word (20_memory.md R57, 30_encoding.md R72). -/
theorem fetch_of_cmd {a : BitVec 8} (h : Reg.ofOffset a = some .cmd) (v : Word) (s : State) :
    fetch (.hostWrite a v) s = some (decodeCmd v) :=
  fetch_of_unit (ch := .cmd) (raw := .word v) (by simp only [fetchUnit, h]) rfl

/-- A write to CKS_DATA brings its word (20_memory.md R57, 40_checksum.md R87). -/
theorem fetch_of_cksData {a : BitVec 8} (h : Reg.ofOffset a = some .cksData) (v : Word) (s : State) :
    fetch (.hostWrite a v) s = some (.cksDataWrite (v.extractLsb' 0 8) (v.extractLsb' 8 24)) :=
  fetch_of_unit (ch := .cksData) (raw := .word v) (by simp only [fetchUnit, h]) rfl

/-- An acceptance in a state that offers a control byte brings that byte (30_encoding.md R74, 41_devicelink.md R89). -/
theorem fetch_of_control {s : State} (hf : s.fsm = .txEnq ∨ s.fsm = .txReq ∨ s.fsm = .txFrameAck) {b : Byte} {i : Instr}
    (ho : offered s = some b) (hd : decodeTx b = .ok i) : fetch .deviceAccept s = some i := by
  refine fetch_of_unit (ch := .txControl) (raw := .bytes [b]) ?_ hd
  rcases hf with h | h | h <;> simp only [fetchUnit, h, ho, Option.map_some]

/-- The element frame of an on-time decodes to it (30_encoding.md R77). -/
theorem decodeElementFrame_elementBytes (ms : Word) : decodeElementFrame (elementBytes ms) = .ok (.elementFrame ms) := by
  unfold decodeElementFrame
  rw [if_pos (elementBytes_length ms)]
  simp [elementBytes, bytes32]

/-- A temperature frame has 64 bytes (30_encoding.md R76). -/
theorem tempBytes_length (env bath : Half) {unused : List Byte} (hu : unused.length = 59) (trailer : Byte) :
    (tempBytes env bath unused trailer).length = 64 := by
  simp [tempBytes, bytes16, hu]

/-- A temperature frame decodes to its fields (30_encoding.md R76). -/
theorem decodeTempFrame_tempBytes (env bath : Half) {unused : List Byte} (hu : unused.length = 59) (trailer : Byte) :
    decodeTempFrame (tempBytes env bath unused trailer) = .ok (.tempFrame env bath unused trailer) := by
  unfold decodeTempFrame
  rw [if_pos (tempBytes_length env bath hu trailer)]
  simp [tempBytes, bytes16, hu]

/-- The acceptance of the last byte of an element frame brings the frame (30_encoding.md R77; log 13). -/
theorem fetch_of_elementFrame {s : State} {ms : Word} (hf : s.fsm = .txFrame) (hi : s.idx = 63)
    (he : s.eframe = elementVector ms) : fetch .deviceAccept s = some (.elementFrame ms) := by
  refine fetch_of_unit (ch := .txFrame) (raw := .bytes (elementBytes ms)) ?_ (decodeElementFrame_elementBytes ms)
  simp [fetchUnit, frameSent, hf, hi, he]

/-- A temperature frame is its 63 checked bytes and its trailer (30_encoding.md R76). -/
theorem tempBytes_eq (env bath : Half) (unused : List Byte) (trailer : Byte) :
    tempBytes env bath unused trailer = tempBody env bath unused ++ [trailer] := by
  simp [tempBytes, tempBody]

/-- The step that takes the last byte of a temperature frame brings the frame (30_encoding.md R76; log 13). -/
theorem fetch_of_tempFrame {s : State} {env bath : Half} {unused more : List Byte} {trailer : Byte} (hu : unused.length = 59)
    (hf : s.fsm = .rxFrame) (hi : s.idx = 63) (hc : s.collected = tempBody env bath unused) (hr : s.rxfifo = trailer :: more) :
    fetch .engine s = some (.tempFrame env bath unused trailer) := by
  refine fetch_of_unit (ch := .rxFrame) (raw := .bytes (tempBytes env bath unused trailer)) ?_
    (decodeTempFrame_tempBytes env bath hu trailer)
  simp [fetchUnit, frameCompleted, hf, hi, hc, hr, tempBytes_eq]

end Sys2Proof.Machine
end

section
/-! PROOFS. A frame byte by byte: arrivals in the FIFO, the bytes of a temperature frame taken, and the bytes of an element frame
accepted. -/

namespace Sys2Proof.Machine

/-- `pay` after the frame bytes `bs` from index `i` on (42_protocol.md R100). -/
def storePay : Nat → List Byte → Vector Byte 4 → Vector Byte 4
  | _, [], p => p
  | i, b :: bs, p => storePay (i + 1) bs (if i ≤ 3 then p.setIfInBounds i b else p)

/-- The state after the checked frame bytes `bs` are taken, each already out of the FIFO (42_protocol.md R100). -/
def collectBytes (bs : List Byte) (s : State) : State :=
  { s with
    idx := s.idx + bs.length, acc := bs.foldl cksAdd s.acc, collected := s.collected ++ bs, pay := storePay s.idx bs s.pay }

@[simp] theorem collectBytes_nil (s : State) : collectBytes [] s = s := by
  simp [collectBytes, storePay]

/-- A checked byte (42_protocol.md R100). -/
theorem rxFrameByte_eq_collectBytes {s : State} (h : s.idx ≤ 62) (b : Byte) : rxFrameByte b s = collectBytes [b] s :=
  rxFrameByte_of_le h b

/-- Bytes taken after a first one are one list taken. -/
theorem collectBytes_collectBytes (b : Byte) (bs : List Byte) (s : State) :
    collectBytes bs (collectBytes [b] s) = collectBytes (b :: bs) s := by
  simp [collectBytes, storePay, Nat.add_comm 1, Nat.add_assoc]

/-- Bytes past the fourth leave `pay`. -/
theorem storePay_of_ge {i : Nat} (h : 4 ≤ i) (bs : List Byte) (p : Vector Byte 4) : storePay i bs p = p := by
  induction bs generalizing i with
  | nil => rfl
  | cons b bs ih => rw [storePay, if_neg (by omega), ih (by omega)]

/-- `pay` holds the first four bytes of a frame. -/
theorem storePay_four (b0 b1 b2 b3 : Byte) (bs : List Byte) (p : Vector Byte 4) :
    storePay 0 (b0 :: b1 :: b2 :: b3 :: bs) p = #v[b0, b1, b2, b3] := by
  simp only [storePay, storePay_of_ge (Nat.le_refl 4)]
  ext i hi
  interval_cases i <;> simp

@[simp] theorem tempBody_length (env bath : Half) (unused : List Byte) :
    (tempBody env bath unused).length = unused.length + 4 := by
  simp [tempBody, bytes16]

/-- The checked bytes of a frame, taken from its start, leave its trailer awaited. -/
theorem frameCollected_collectBytes {s : State} (env bath : Half) {unused : List Byte} (hu : unused.length = 59)
    (hf : s.fsm = .rxFrame) (hi : s.idx = 0) (ha : s.acc = 0) (hc : s.collected = []) :
    FrameCollected env bath unused (collectBytes (tempBody env bath unused) s) := by
  refine ⟨hf, ?_, ?_, ?_, ?_⟩
  · simp [collectBytes, hi, hu]
  · simp [collectBytes, hc]
  · simp [collectBytes, ha, cks]
  · simp only [collectBytes, hi]
    exact storePay_four _ _ _ _ unused s.pay

/-- The engine's step in RX_FRAME takes the checked byte that waits (42_protocol.md R100). -/
theorem turn_engine_of_frameByte {s : State} (hf : s.fsm = .rxFrame) (hi : s.idx ≤ 62) {b : Byte} {more : List Byte}
    (hr : s.rxfifo = b :: more) : turn .engine s = .next (collectBytes [b] { s with rxfifo := more }) := by
  have hn : replyByte s = none := by simp [replyByte, hf, Fsm.replying]
  have hb : rxFrameStep s = collectBytes [b] { s with rxfifo := more } :=
    (rxFrameStep_of_cons hf hr).trans (rxFrameByte_eq_collectBytes (s := { s with rxfifo := more }) hi b)
  rw [turn_engine_of_none hn, ← hb]
  simp only [engineStep, hf, hr, List.isEmpty_cons, Bool.false_eq_true, if_false]

/-- An empty FIFO has room (00_scope.md R8). -/
theorem room_of_nil {s : State} (h : s.rxfifo = []) : s.rxfifo.length < Config.rxfDepth := by
  rw [h]; exact Nat.lt_of_lt_of_le (by decide) rxfDepth_ge

/-- An arrival where there is no room is dropped (41_devicelink.md R90). -/
theorem deviceSend_of_ge {s : State} (h : Config.rxfDepth ≤ s.rxfifo.length) (b : Byte) :
    deviceSend b s = { s with rxOvf := true } :=
  if_neg (Nat.not_lt.mpr h)

section
variable {s : State} {rest : List Event}

/-- A run whose first step is an arrival with room. -/
theorem run_deviceSend (n : Nat) {b : Byte} (hp : s.pending = .deviceSend b :: rest) (h : s.rxfifo.length < Config.rxfDepth) :
    Sys2Proof.core.run (n + 1) s = Sys2Proof.core.run n { s with rxfifo := s.rxfifo ++ [b], pending := rest } :=
  run_scheduled n hp (congrArg Host.Outcome.next (deviceSend_of_lt (s := { s with pending := rest }) h b))

/-- A run whose first step takes a checked byte of a temperature frame (42_protocol.md R100). -/
theorem run_frameByte (n : Nat) {b : Byte} {more : List Byte} (hp : s.pending = .engine :: rest) (hf : s.fsm = .rxFrame)
    (hi : s.idx ≤ 62) (hr : s.rxfifo = b :: more) :
    Sys2Proof.core.run (n + 1) s = Sys2Proof.core.run n (collectBytes [b] { s with rxfifo := more, pending := rest }) :=
  run_scheduled n hp (turn_engine_of_frameByte (s := { s with pending := rest }) hf hi hr)

/-- A run whose first two steps are an arrival and its taking (41_devicelink.md R90, 42_protocol.md R100). -/
theorem run_arrivingByte (n : Nat) {b : Byte} (hp : s.pending = .deviceSend b :: .engine :: rest) (hf : s.fsm = .rxFrame)
    (hi : s.idx ≤ 62) (hr : s.rxfifo = []) :
    Sys2Proof.core.run (n + 2) s = Sys2Proof.core.run n (collectBytes [b] { s with rxfifo := [], pending := rest }) :=
  (run_deviceSend (n + 1) hp (room_of_nil hr)).trans
    (run_frameByte (s := { s with rxfifo := s.rxfifo ++ [b], pending := .engine :: rest }) n rfl hf hi
      (congrArg (· ++ [b]) hr))

/-- A run whose first step accepts a byte of an element frame before its last (42_protocol.md R97). -/
theorem run_elementByte (n : Nat) (hp : s.pending = .deviceAccept :: rest) (hf : s.fsm = .txFrame) (hi : s.idx < 63) :
    Sys2Proof.core.run (n + 1) s =
      Sys2Proof.core.run n { s with idx := s.idx + 1, wire := s.wire ++ [s.eframe[s.idx]], pending := rest } := by
  refine run_scheduled n hp ((turn_deviceAccept _).trans (congrArg Host.Outcome.next ?_))
  refine (deviceAccept_of_txFrame (s := { s with pending := rest }) hf (by dsimp only; omega)).trans ?_
  simp [afterAccept, sendByte, hf, show s.idx ≠ 63 by omega]

/-- Arrivals with room for them all join the FIFO in order (41_devicelink.md R90). -/
theorem run_arrivals (bs : List Byte) (hp : s.pending = bs.map Event.deviceSend ++ rest)
    (h : s.rxfifo.length + bs.length ≤ Config.rxfDepth) :
    Sys2Proof.core.run bs.length s = .next { s with rxfifo := s.rxfifo ++ bs, pending := rest } := by
  induction bs generalizing s with
  | nil => rw [List.append_nil, ← show s.pending = rest from hp]; rfl
  | cons b bs ih =>
    rw [List.length_cons] at h
    have ht := ih (s := { s with rxfifo := s.rxfifo ++ [b], pending := bs.map Event.deviceSend ++ rest }) rfl (by simp; omega)
    rw [List.append_assoc] at ht
    exact (run_deviceSend bs.length hp (by omega)).trans ht

/-- The checked bytes of a temperature frame that wait in the FIFO are taken one by one (42_protocol.md R100). -/
theorem run_waitingBytes (bs : List Byte) {more : List Byte}
    (hp : s.pending = List.replicate bs.length Event.engine ++ rest) (hf : s.fsm = .rxFrame) (hr : s.rxfifo = bs ++ more)
    (h : s.idx + bs.length ≤ 63) :
    Sys2Proof.core.run bs.length s = .next (collectBytes bs { s with rxfifo := more, pending := rest }) := by
  induction bs generalizing s with
  | nil => rw [collectBytes_nil, ← show s.pending = rest from hp, ← show s.rxfifo = more from hr]; rfl
  | cons b bs ih =>
    rw [List.length_cons] at h
    have ht := ih (s := collectBytes [b] { s with
      rxfifo := bs ++ more, pending := List.replicate bs.length Event.engine ++ rest }) rfl hf rfl
      (by simp [collectBytes]; omega)
    refine (run_frameByte bs.length hp hf (by omega) hr).trans (ht.trans (congrArg Host.Outcome.next ?_))
    exact collectBytes_collectBytes b bs { s with rxfifo := more, pending := rest }

/-- The checked bytes of a temperature frame, each taken as soon as it arrives (41_devicelink.md R90, 42_protocol.md R100). -/
theorem run_arrivingBytes (bs : List Byte)
    (hp : s.pending = (bs.flatMap fun b => [Event.deviceSend b, Event.engine]) ++ rest) (hf : s.fsm = .rxFrame)
    (hr : s.rxfifo = []) (h : s.idx + bs.length ≤ 63) :
    Sys2Proof.core.run (2 * bs.length) s = .next (collectBytes bs { s with rxfifo := [], pending := rest }) := by
  induction bs generalizing s with
  | nil =>
    have hs : { s with rxfifo := [], pending := rest } = s := by rw [← hr, ← show s.pending = rest from hp]
    rw [collectBytes_nil, hs]; rfl
  | cons b bs ih =>
    rw [List.length_cons] at h
    have ht := ih (s := collectBytes [b] { s with
      rxfifo := [], pending := (bs.flatMap fun b => [Event.deviceSend b, Event.engine]) ++ rest }) rfl hf rfl
      (by simp [collectBytes]; omega)
    refine (run_arrivingByte (2 * bs.length) hp hf (by omega) hr).trans (ht.trans (congrArg Host.Outcome.next ?_))
    exact collectBytes_collectBytes b bs { s with rxfifo := [], pending := rest }

/-- The bytes of an element frame before its last are accepted one by one (41_devicelink.md R89, 42_protocol.md R97). -/
theorem run_elementBytes (n : Nat) (hp : s.pending = List.replicate n Event.deviceAccept ++ rest) (hf : s.fsm = .txFrame)
    (h : s.idx + n ≤ 63) :
    Sys2Proof.core.run n s = .next { s with
      idx := s.idx + n, wire := s.wire ++ (s.eframe.toList.drop s.idx).take n, pending := rest } := by
  induction n generalizing s with
  | zero => rw [List.take_zero, List.append_nil, ← show s.pending = rest from hp]; rfl
  | succ n ih =>
    have ht := ih (s := { s with
      idx := s.idx + 1, wire := s.wire ++ [s.eframe[s.idx]]
      pending := List.replicate n Event.deviceAccept ++ rest }) rfl hf (by dsimp only; omega)
    refine (run_elementByte n hp hf (by omega)).trans (ht.trans ?_)
    rw [List.drop_eq_getElem_cons (by simp; omega : s.idx < s.eframe.toList.length)]
    simp [Nat.add_assoc, Nat.add_comm 1]

end

/-! The whole frame, from its first byte to the instruction that its last byte brings (log 13). -/

section
variable {s : State} (env bath : Half) {unused : List Byte} (trailer : Byte)

/-- With its trailer first in the FIFO, the checked bytes of a temperature frame lead to its instruction. -/
theorem step_of_collected {more : List Byte} (hu : unused.length = 59) (hf : s.fsm = .rxFrame) (hi : s.idx = 0)
    (hc : s.collected = []) :
    step (collectBytes (tempBody env bath unused) { s with rxfifo := trailer :: more, pending := [.engine] }) =
      exec (.tempFrame env bath unused trailer)
        (collectBytes (tempBody env bath unused) { s with rxfifo := trailer :: more, pending := [] }) :=
  step_of_fetch rfl (fetch_of_tempFrame hu hf (by simp [collectBytes, hi, hu]) (by simp [collectBytes, hc]) rfl)

/-- A temperature frame of which each byte is taken as it arrives (41_devicelink.md R90). -/
theorem run_arrivingTempFrame (hu : unused.length = 59) (hf : s.fsm = .rxFrame) (hi : s.idx = 0) (hr : s.rxfifo = [])
    (hc : s.collected = []) :
    Sys2Proof.core.run 128 { s with
      pending := (tempBytes env bath unused trailer).flatMap fun b => [Event.deviceSend b, Event.engine] } =
    exec (.tempFrame env bath unused trailer)
      (collectBytes (tempBody env bath unused) { s with rxfifo := [trailer], pending := [] }) := by
  have hl : (tempBody env bath unused).length = 63 := by simp [hu]
  rw [tempBytes_eq, List.flatMap_append]
  have h := run_arrivingBytes (s := { s with pending := _ }) (tempBody env bath unused) rfl hf hr
    (by dsimp only; omega) (rest := [.deviceSend trailer, .engine])
  rw [hl] at h
  exact (run_add 2 h).trans ((run_deviceSend 1 rfl (room_of_nil rfl)).trans
    ((run_one _).trans (step_of_collected env bath trailer hu hf hi hc)))

/-- A temperature frame that waits in the FIFO whole (41_devicelink.md R90). -/
theorem run_waitingTempFrame {more : List Byte} (hu : unused.length = 59) (hf : s.fsm = .rxFrame) (hi : s.idx = 0)
    (hr : s.rxfifo = tempBytes env bath unused trailer ++ more) (hc : s.collected = []) :
    Sys2Proof.core.run 64 { s with pending := List.replicate 64 Event.engine } = exec (.tempFrame env bath unused trailer)
      (collectBytes (tempBody env bath unused) { s with rxfifo := trailer :: more, pending := [] }) := by
  have hl : (tempBody env bath unused).length = 63 := by simp [hu]
  rw [tempBytes_eq, List.append_assoc] at hr
  have h := run_waitingBytes (s := { s with pending := List.replicate 64 Event.engine }) _ (rest := [.engine])
    (by rw [hl]; rfl) hf hr (by dsimp only; omega)
  rw [hl] at h
  exact (run_add 1 h).trans ((run_one _).trans (step_of_collected env bath trailer hu hf hi hc))

/-- An element frame (41_devicelink.md R89). -/
theorem run_elementFrame {ms : Word} (hf : s.fsm = .txFrame) (hi : s.idx = 0) (he : s.eframe = elementVector ms) :
    Sys2Proof.core.run 64 { s with pending := List.replicate 64 Event.deviceAccept } =
      exec (.elementFrame ms) { s with idx := 63, wire := s.wire ++ (elementBytes ms).take 63, pending := [] } := by
  have h : Sys2Proof.core.run 63 { s with pending := List.replicate 64 Event.deviceAccept } = .next { s with
      idx := 63, wire := s.wire ++ (elementBytes ms).take 63, pending := [.deviceAccept] } :=
    (run_elementBytes (s := { s with pending := List.replicate 64 Event.deviceAccept }) 63 (rest := [.deviceAccept]) rfl hf
      (by dsimp only; omega)).trans (by simp [hi, he])
  refine (run_add 1 h).trans ((run_one _).trans (step_of_fetch rfl ?_))
  exact fetch_of_elementFrame (s := { s with
    idx := 63, wire := s.wire ++ (elementBytes ms).take 63, pending := [] }) hf rfl he

end

end Sys2Proof.Machine
end

section
/-! PROOFS. The obligations of 00_scope.md. -/

namespace Sys2Proof.Machine

/-- Settles O23: `deviceSend` by the room in the FIFO. -/
theorem arrivalJoinsFifoOrIsDropped : Obligations.ArrivalJoinsFifoOrIsDropped := by
  refine ⟨rxfDepth_ge, fun b s => ⟨fun h => ?_, fun h => ?_⟩⟩
  · rw [turn_deviceSend, deviceSend_of_lt h]
  · rw [turn_deviceSend, deviceSend_of_ge h]

/-- Settles O24: induction over the arriving bytes. -/
theorem unawaitedFrameStaysInFifo : Obligations.UnawaitedFrameStaysInFifo := by
  refine ⟨fun env bath unused trailer s hu hroom hp => ?_, fun b s => rfl⟩
  have hl := tempBytes_length env bath hu trailer
  have h := run_arrivals (s := { s with pending := (tempBytes env bath unused trailer).map Event.deviceSend })
    (tempBytes env bath unused trailer) (rest := []) (List.append_nil _).symm (by rw [hl]; exact hroom)
  rw [hl] at h
  rw [h, ← hp]

/-- Settles O27: each frame by the run of its first 63 bytes and the step that moves its last. -/
theorem framesAreTheirSingleSteps : Obligations.FramesAreTheirSingleSteps := by
  refine ⟨fun env bath unused trailer s hu hf hi ha hc hr hp => ?_, fun env bath unused rest trailer s hu hf hi ha hc hr hp => ?_,
    fun ms s hf hi he hp => ?_⟩
  · refine ⟨collectBytes (tempBody env bath unused) { s with rxfifo := [trailer] },
      frameCollected_collectBytes env bath hu hf hi ha hc, ?_, ?_⟩
    · simp [collectBytes, hi, hu]
    · rw [run_arrivingTempFrame env bath trailer hu hf hi hr hc, ← hp]
  · refine ⟨collectBytes (tempBody env bath unused) { s with rxfifo := trailer :: rest },
      frameCollected_collectBytes env bath hu hf hi ha hc, ?_, ?_⟩
    · simp [collectBytes, hi, hu]
    · rw [run_waitingTempFrame env bath trailer hu hf hi hr hc, ← hp]
  · rw [run_elementFrame hf hi he, ← hp]

/-- Settles O55: each unit by the instruction its fetch decodes. -/
theorem stepRunsDecodedInstruction : Obligations.StepRunsDecodedInstruction := by
  refine ⟨fun e rest s i hp h => step_of_fetch hp h, fun a v rest s hp => ⟨fun ha => ?_, fun ha => ?_⟩,
    fun b more rest s hp hf hr => ?_, fun rest s hp => ⟨fun hf => ?_, fun hf ho => ?_, fun hf ho => ?_, fun hf => ?_, ?_⟩,
    fun env bath unused trailer more rest s hp hu hf hi hc hr => ?_⟩
  · exact step_of_fetch hp (fetch_of_cmd (Reg.ofOffset_of_word ha) v _)
  · exact step_of_fetch hp (fetch_of_cksData (Reg.ofOffset_of_word ha) v _)
  · refine step_of_fetch hp (fetch_engine_of_reply (b := b) ?_)
    rcases hf with hf | hf | hf <;> simp [replyByte, hf, Fsm.replying, hr]
  · exact step_of_fetch hp (fetch_of_control (b := 0x05) (.inl hf) (by simp [offered, hf]) rfl)
  · exact step_of_fetch hp (fetch_of_control (b := 0x11) (.inr (.inl hf)) (by simp [offered, hf, ho]) rfl)
  · exact step_of_fetch hp (fetch_of_control (b := 0x12) (.inr (.inl hf)) (by simp [offered, hf, ho]) rfl)
  · exact step_of_fetch hp (fetch_of_control (b := 0x06) (.inr (.inr hf)) (by simp [offered, hf]) rfl)
  · exact fun ms hf hi he => step_of_fetch hp (fetch_of_elementFrame hf hi he)
  · exact step_of_fetch hp (fetch_of_tempFrame hu hf hi hc hr)

end Sys2Proof.Machine
end

section
/-! PROOFS. What a turn can do, agent by agent: the inversion lemmas that every statement about all steps goes by. -/

namespace Sys2Proof.Machine

/-- A write of `STATUS` as one whole next state (10_state.md R25). -/
theorem writeStatus_eq (v : Word) (s : State) : writeStatus v s = { s with
    fatal := s.fatal && !v.getLsbD 6, pidSat := s.pidSat && !v.getLsbD 7, rxOvf := s.rxOvf && !v.getLsbD 8
    session := if v.getLsbD 6 = true ∧ s.session = .deviceError then .idle else s.session } := by
  unfold writeStatus clearFatal
  generalize v.getLsbD 6 = clear
  cases clear <;> simp

/-- What the write of a command can lead to (30_encoding.md R73). -/
inductive CommandStep (s : State) : State → Prop where
  | nop : CommandStep s s
  | readTemps : CommandStep s (acceptCmd 0x1 true .host (startLink .read) s)
  | setElement : CommandStep s (acceptCmd 0x2 true .host (fun t => startLink .set { t with setVal := t.onTime }) s)
  | pidCompute : CommandStep s (acceptCmd 0x3 false .host
      (fun t => { t with snapE := sext t.errIn, snapKp := sext t.kp, snapKi := sext t.ki, snapKd := sext t.kd, fsm := .exec }) s)
  | pidClear : CommandStep s (acceptCmd 0x4 false .host (fun t => { t with fsm := .exec }) s)
  | cycle : CommandStep s
      (acceptCmd 0x5 true .cycleCmd (fun t => { t with fsm := .exec, cycleStart := t.time, loopPhase := .cycleSet }) s)
  | flush : CommandStep s
      (acceptCmd 0x6 false .host (fun t => { setIpr iprDone (flushRx t) with hostOp := 0, origin := .none }) s)
  | reserved (op : BitVec 4) : CommandStep s (reservedCmd op s)

/-- What the engine's step can lead to (42_protocol.md R97, 41_devicelink.md R94, 45_control_loop.md R121 to R123). -/
inductive EngineStep (s : State) : State → Prop where
  | acceptReply {b : Byte} (hr : replyByte s = some b) : EngineStep s (acceptReply (popRx s))
  | denyReply {b : Byte} (hr : replyByte s = some b) : EngineStep s (denyReply b (popRx s))
  | stay : EngineStep s s
  | loopStart (hf : s.fsm = .idle) (hc : loopCanStart s = true) : EngineStep s (loopStart s)
  | timeout : EngineStep s (timeoutStep s)
  | frameByte (hf : s.fsm = .rxFrame) : EngineStep s (rxFrameStep s)
  | control (hf : s.fsm = .exec) (ho : s.origin ≠ .host) : EngineStep s (controlStep s)
  | pidCompute (hf : s.fsm = .exec) (ho : s.origin = .host) (hop : s.hostOp = 0x3) :
      EngineStep s (endHost (pidStep s.snapE s.snapKp s.snapKi s.snapKd s))
  | pidClear (hf : s.fsm = .exec) (ho : s.origin = .host) (hop : s.hostOp = 0x4) : EngineStep s (endHost (pidClear s))
  | loopWait (hf : s.fsm = .loopWait) : EngineStep s (loopWaitStep s)

/-- What a turn can lead to, by its event (00_scope.md R4, R7). -/
inductive TurnStep (s : State) : Event → State → Prop where
  | hostRead (a : BitVec 8) : TurnStep s (.hostRead a) { s with busRdata := windowRead a s }
  | command {a : BitVec 8} {v : Word} {t : State} (ha : Reg.ofOffset a = some .cmd) (he : exec (decodeCmd v) s = .next t)
      (h : CommandStep s t) : TurnStep s (.hostWrite a v) t
  | cksData {a : BitVec 8} {v : Word} (ha : Reg.ofOffset a = some .cksData) :
      TurnStep s (.hostWrite a v) { s with cksAcc := cksAdd s.cksAcc (v.extractLsb' 0 8) }
  | write (a : BitVec 8) (v : Word) : TurnStep s (.hostWrite a v) (windowWrite a v s)
  | deviceSend (b : Byte) : TurnStep s (.deviceSend b) (deviceSend b s)
  | deviceAccept : TurnStep s .deviceAccept (deviceAccept s)
  | engine {t : State} (he : turn .engine s = .next t) (h : EngineStep s t) : TurnStep s .engine t
  | tick : TurnStep s .tick { s with time := s.time + 1 }
  | link (up : Bool) : TurnStep s (.link up) { s with linkUp := up }
  | reset : TurnStep s .reset (resetPulse s)

/-- Every command word answers a next state (30_encoding.md R72, R73). -/
theorem exec_decodeCmd (v : Word) (s : State) : ∃ t, exec (decodeCmd v) s = .next t ∧ CommandStep s t := by
  unfold decodeCmd
  rcases bitVec4_cases (v.extractLsb' 0 4) with h | h | h | h | h | h | h | h | h | h | h | h | h | h | h | h <;> rw [h]
  · exact ⟨_, rfl, .nop⟩
  · exact ⟨_, rfl, .readTemps⟩
  · exact ⟨_, rfl, .setElement⟩
  · exact ⟨_, rfl, .pidCompute⟩
  · exact ⟨_, rfl, .pidClear⟩
  · exact ⟨_, rfl, .cycle⟩
  · exact ⟨_, rfl, .flush⟩
  all_goals exact ⟨_, rfl, .reserved _⟩

/-- The EXEC step by its owner (43_pid.md R108, R109, 45_control_loop.md R121). -/
theorem execStep_next {s t : State} (hf : s.fsm = .exec) (h : execStep s = .next t) : EngineStep s t := by
  unfold execStep at h
  cases ho : s.origin <;> rw [ho] at h
  · cases h
  · dsimp only at h
    split at h
    · cases h; exact .pidCompute hf ho ‹_›
    · split at h
      · cases h; exact .pidClear hf ho ‹_›
      · cases h
  · cases h; exact .control hf (by rw [ho]; decide)
  · cases h; exact .control hf (by rw [ho]; decide)

/-- The engine's step where no reply waits, by its position (42_protocol.md R97). -/
theorem engineStep_next {s t : State} (h : engineStep s = .next t) : EngineStep s t := by
  unfold engineStep at h
  cases hf : s.fsm <;> rw [hf] at h <;> dsimp only at h
  case idle =>
    split at h <;> cases h
    · exact .loopStart hf ‹_›
    · exact .stay
  case rxFrame =>
    split at h <;> cases h
    · exact .timeout
    · exact .frameByte hf
  case exec => exact execStep_next hf h
  case loopWait => cases h; exact .loopWait hf
  all_goals cases h; exact .timeout

theorem turn_engine_next {s t : State} (h : turn .engine s = .next t) : EngineStep s t := by
  cases hr : replyByte s with
  | none => exact engineStep_next ((turn_engine_of_none hr).symm.trans h)
  | some b =>
    rw [turn_engine_of_reply hr] at h
    split at h <;> cases h
    · exact .acceptReply hr
    · exact .denyReply hr

theorem turn_next {e : Event} {s t : State} (h : turn e s = .next t) : TurnStep s e t := by
  cases e with
  | hostRead a => cases h; exact .hostRead a
  | hostWrite a v =>
    rw [turn_hostWrite] at h
    split at h
    · obtain ⟨u, hu, hc⟩ := exec_decodeCmd v s
      cases hu.symm.trans h
      exact .command ‹_› hu hc
    · split at h <;> cases h
      · exact .cksData ‹_›
      · exact .write a v
  | hostNarrow a => cases h
  | deviceSend b => cases h; exact .deviceSend b
  | deviceAccept => cases (turn_deviceAccept s).symm.trans h; exact .deviceAccept
  | engine => exact .engine h (turn_engine_next h)
  | tick => cases h; exact .tick
  | link up => cases h; exact .link up
  | reset => cases h; exact .reset

end Sys2Proof.Machine
end

section
/-! PROOFS. The invariant, operation by operation, and that every turn keeps it. -/

namespace Sys2Proof.Machine

/-- The fields that the invariant speaks of; every other field at its reset value. -/
def invView (s : State) : State :=
  { State.reset with
    session := s.session, loopEn := s.loopEn, loopRun := s.loopRun, fatal := s.fatal, lastOnTime := s.lastOnTime
    cksAcc := s.cksAcc, fsm := s.fsm, op := s.op, idx := s.idx, origin := s.origin, hostOp := s.hostOp, rxfifo := s.rxfifo
    acc := s.acc, pay := s.pay, setVal := s.setVal, eframe := s.eframe, loopPhase := s.loopPhase, snapE := s.snapE
    snapKp := s.snapKp, snapKi := s.snapKi, snapKd := s.snapKd, collected := s.collected }

theorem inv_invView (s : State) : Inv (invView s) ↔ Inv s :=
  ⟨fun ⟨h1, h2, h3, h4, h5, h6, h7, h8, h9, h10⟩ => ⟨h1, h2, h3, h4, h5, h6, h7, h8, h9, h10⟩,
    fun ⟨h1, h2, h3, h4, h5, h6, h7, h8, h9, h10⟩ => ⟨h1, h2, h3, h4, h5, h6, h7, h8, h9, h10⟩⟩

/-- A change of fields that the invariant does not speak of keeps it. -/
theorem Inv.of_invView_eq {s t : State} (h : Inv s) (hv : invView t = invView s) : Inv t :=
  (inv_invView t).1 (hv ▸ (inv_invView s).2 h)

/-- The clauses of the invariant that do not depend on the position of `fsm`. -/
structure Steady (s : State) : Prop where
  accRange : s.acc.toNat < 255
  cksAccRange : s.cksAcc.toNat < 255
  fifoBound : s.rxfifo.length ≤ Config.rxfDepth
  fatalPins : s.fatal = true → s.session = .deviceError ∧ s.loopEn = false ∧ s.loopRun = false
  loopRunIff : s.loopRun = true ↔ s.origin = .loop
  snapRange : inS32 s.snapE ∧ inS32 s.snapKp ∧ inS32 s.snapKi ∧ inS32 s.snapKd

/-- The fields that these clauses speak of; every other field at its reset value. -/
def steadyView (s : State) : State :=
  { State.reset with
    session := s.session, loopEn := s.loopEn, loopRun := s.loopRun, fatal := s.fatal, cksAcc := s.cksAcc, origin := s.origin
    rxfifo := s.rxfifo, acc := s.acc, snapE := s.snapE, snapKp := s.snapKp, snapKi := s.snapKi, snapKd := s.snapKd }

theorem steady_steadyView (s : State) : Steady (steadyView s) ↔ Steady s :=
  ⟨fun ⟨h1, h2, h3, h4, h5, h6⟩ => ⟨h1, h2, h3, h4, h5, h6⟩, fun ⟨h1, h2, h3, h4, h5, h6⟩ => ⟨h1, h2, h3, h4, h5, h6⟩⟩

/-- A change of fields that the clauses do not speak of keeps them. -/
theorem Steady.of_steadyView_eq {s t : State} (h : Steady s) (hv : steadyView t = steadyView s) : Steady t :=
  (steady_steadyView t).1 (hv ▸ (steady_steadyView s).2 h)

theorem Inv.steady {s : State} (h : Inv s) : Steady s :=
  { h with }

/-- The positions at which no frame moves: the clauses about frames hold of themselves. -/
def Fsm.frameless : Fsm → Bool
  | .rxFrame | .txFrame | .rxFrameAck => false
  | .idle | .txEnq | .rxEnqAck | .txReq | .rxReqAck | .txFrameAck | .exec | .loopWait => true

/-- Where no frame moves, the context and the clamp make a steady state safe. -/
theorem Steady.inv {s : State} (h : Steady s) (hf : s.fsm.frameless = true) (hc : contextOk s)
    (hcl : s.op = .set → s.origin ≠ .host → s.setVal.toNat ≤ Config.clampMax) : Inv s :=
  { h with
    context := hc
    frameSent := by rintro (hs | hs) <;> rw [hs] at hf <;> cases hf
    collecting := by intro hs; rw [hs] at hf; cases hf
    clamped := hcl }

/-! ### Where no link operation is in flight -/

/-- The end of an operation: the engine rests in IDLE. -/
theorem Steady.inv_idle {s : State} (h : Steady s) (hf : s.fsm = .idle) (hop : s.op = .none) (hi : s.idx = 0)
    (ho : s.origin = .none) (hh : s.hostOp = 0) (hp : s.loopPhase = .off) : Inv s :=
  h.inv (by rw [hf]; rfl) (by simp only [contextOk, hf]; exact ⟨hop, hi, ho, hh, hp⟩) (by rw [hop]; intro hs; cases hs)

/-- The engine in EXEC with an owner (43_pid.md R108, R109, 45_control_loop.md R122, R124). -/
theorem Steady.inv_exec {s : State} (h : Steady s) (hf : s.fsm = .exec) (hx : execOwned s) (hi : s.idx = 0) : Inv s :=
  h.inv (by rw [hf]; rfl) (by simp only [contextOk, hf]; exact ⟨hx, hi⟩) (by rw [hx.1]; intro hs; cases hs)

/-- Every fatal error ends whatever was in flight (60_exceptions.md R130, R131). -/
theorem Steady.raiseError {s : State} (h : Steady s) {code : ErrCode} (hc : code.isFatal = true) (phase : BitVec 3)
    (byte : Byte) (given : BitVec 4) : Inv (raiseError code phase byte given s) := by
  rw [raiseError_of_fatal hc]
  exact Steady.inv_idle { h with fatalPins := fun _ => ⟨rfl, rfl, rfl⟩, loopRunIff := ⟨nofun, nofun⟩ } rfl rfl rfl rfl rfl rfl

theorem Steady.endHost {s : State} (h : Steady s) (ho : s.origin ≠ .loop) (hop : s.op = .none) (hi : s.idx = 0)
    (hp : s.loopPhase = .off) : Inv (endHost s) := by
  have hr : s.loopRun ≠ true := fun hr => ho (h.loopRunIff.1 hr)
  exact Steady.inv_idle { h with loopRunIff := ⟨fun hl => absurd hl hr, nofun⟩ } rfl hop hi rfl rfl hp

theorem Steady.loopStop {s : State} (h : Steady s) (hop : s.op = .none) (hi : s.idx = 0) (hh : s.hostOp = 0) :
    Inv (loopStop s) := by
  have hp : s.fatal = true → s.session = .deviceError ∧ s.loopEn = false ∧ false = false :=
    fun hf => (h.fatalPins hf).imp_right (And.imp_right fun _ => rfl)
  exact Steady.inv_idle { h with fatalPins := hp, loopRunIff := ⟨nofun, nofun⟩ } rfl hop hi rfl hh rfl

theorem Steady.beginCycle {s : State} (h : Steady s) (ho : s.origin = .loop) (hop : s.op = .none) (hi : s.idx = 0)
    (hh : s.hostOp = 0) : Inv (beginCycle s) :=
  (h.of_steadyView_eq (t := Machine.beginCycle s) rfl).inv_exec rfl ⟨hop, .inr (.inr ⟨ho, hh, rfl⟩)⟩ hi

/-- The loop rests in LOOP_WAIT (45_control_loop.md R122, R123). -/
theorem Steady.inv_loopWait {s : State} (h : Steady s) (hf : s.fsm = .loopWait) (hop : s.op = .none) (hi : s.idx = 0)
    (ho : s.origin = .loop) (hh : s.hostOp = 0) (hp : s.loopPhase = .wait) : Inv s :=
  h.inv (by rw [hf]; rfl) (by simp only [contextOk, hf]; exact ⟨hop, hi, ho, hh, hp⟩) (by rw [hop]; intro hs; cases hs)

/-! ### The start and the end of a link operation -/

/-- A link operation starts for an owner that fits it (42_protocol.md R96). -/
theorem Steady.startLink {s : State} (h : Steady s) {k : LinkOp} (ho : linkOwned { s with op := k })
    (hcl : k = .set → s.origin ≠ .host → s.setVal.toNat ≤ Config.clampMax) : Inv (startLink k s) := by
  have hr : (if s.autoflush then [] else s.rxfifo).length ≤ Config.rxfDepth := by
    split
    · exact Nat.zero_le _
    · exact h.fifoBound
  rw [startLink_eq]
  exact Steady.inv { h with accRange := Nat.zero_lt_succ _, fifoBound := hr } rfl ⟨ho, rfl⟩ hcl

theorem Steady.seqStartLink {s : State} (h : Steady s) {k : LinkOp} (ho : linkOwned { s with op := k })
    (hcl : k = .set → s.origin ≠ .host → s.setVal.toNat ≤ Config.clampMax) : Inv (seqStartLink k s) := by
  unfold Machine.seqStartLink
  split
  · exact h.startLink ho hcl
  · exact h.raiseError rfl _ _ _

theorem sequencerContinue_of_initRead {s : State} (hp : s.loopPhase = .initRead) (r : LinkResult) :
    sequencerContinue r s = if s.loopEn then beginCycle s else loopStop s := by
  simp only [sequencerContinue, hp]

theorem sequencerContinue_of_cycleSet {s : State} (hp : s.loopPhase = .cycleSet) (r : LinkResult) :
    sequencerContinue r s = seqStartLink .read { s with loopPhase := .cycleRead } := by
  simp only [sequencerContinue, hp]

theorem sequencerContinue_of_cycleRead {s : State} (hp : s.loopPhase = .cycleRead) (r : LinkResult) :
    sequencerContinue r s =
      if s.origin = .cycleCmd then endHost { setIpr iprCycle s with loopPhase := .off }
      else { setIpr iprCycle s with loopPhase := .wait, fsm := .loopWait } := by
  simp only [sequencerContinue, hp]; rfl

/-- Who the sequencer goes on for, once a link operation of its own has ended (45_control_loop.md R122). -/
def sequenced (s : State) : Prop :=
  (s.origin = .cycleCmd ∧ s.hostOp = 0x5 ∧ (s.loopPhase = .cycleSet ∨ s.loopPhase = .cycleRead)) ∨
  (s.origin = .loop ∧ s.hostOp = 0 ∧ (s.loopPhase = .initRead ∨ s.loopPhase = .cycleSet ∨ s.loopPhase = .cycleRead))

/-- A link operation in flight is a host command's or the sequencer's. -/
theorem linkOwned.host_or_sequenced {s : State} (h : linkOwned s) : (s.origin = .host ∧ s.loopPhase = .off) ∨ sequenced s := by
  rcases h with ⟨ho, hp, -⟩ | ⟨ho, hh, hp⟩ | ⟨ho, hh, hp⟩
  · exact .inl ⟨ho, hp⟩
  · exact .inr (.inl ⟨ho, hh, hp.imp And.right And.right⟩)
  · exact .inr (.inr ⟨ho, hh, hp.imp And.right (Or.imp And.right And.right)⟩)

theorem sequenced.ne_host {s : State} (h : sequenced s) : s.origin ≠ .host := by
  rcases h with ⟨ho, -⟩ | ⟨ho, -⟩ <;> rw [ho] <;> decide

theorem Steady.sequencerContinue {s : State} (h : Steady s) (hop : s.op = .none) (hi : s.idx = 0) (ho : sequenced s)
    (r : LinkResult) : Inv (sequencerContinue r s) := by
  cases hp : s.loopPhase <;>
    simp only [sequenced, hp, reduceCtorEq, false_or, or_false, and_false, and_true] at ho
  case initRead =>
    obtain ⟨ho, hh⟩ := ho
    rw [sequencerContinue_of_initRead hp]
    split
    · exact h.beginCycle ho hop hi hh
    · exact h.loopStop hop hi hh
  case cycleSet =>
    rw [sequencerContinue_of_cycleSet hp]
    have hs : Steady { s with loopPhase := .cycleRead } := h.of_steadyView_eq rfl
    refine hs.seqStartLink (.inr ?_) nofun
    exact ho.imp (fun ⟨ho, hh⟩ => ⟨ho, hh, .inr ⟨rfl, rfl⟩⟩) (fun ⟨ho, hh⟩ => ⟨ho, hh, .inr (.inr ⟨rfl, rfl⟩)⟩)
  case cycleRead =>
    rw [sequencerContinue_of_cycleRead hp]
    rcases ho with ⟨ho, hh⟩ | ⟨ho, hh⟩
    · rw [if_pos ho]
      have hs : Steady { setIpr iprCycle s with loopPhase := .off } := h.of_steadyView_eq rfl
      exact hs.endHost (by simp [ho]) hop hi rfl
    · rw [if_neg (by simp [ho])]
      have hs : Steady { setIpr iprCycle s with loopPhase := .wait, fsm := .loopWait } := h.of_steadyView_eq rfl
      exact hs.inv_loopWait rfl hop hi ho hh rfl

theorem Steady.endLink {s : State} (h : Steady s) (ho : linkOwned s) (r : LinkResult) : Inv (endLink r s) := by
  have hs : Steady { s with op := .none, idx := 0 } := h.of_steadyView_eq rfl
  unfold Machine.endLink
  rcases ho.host_or_sequenced with ⟨ho, hp⟩ | ho
  · rw [if_pos ho]
    exact hs.endHost (by simp [ho]) rfl rfl hp
  · rw [if_neg ho.ne_host]
    exact hs.sequencerContinue rfl rfl ho r

end Sys2Proof.Machine
end

section
/-! PROOFS. The invariant through the engine's, the device's and the host's steps. -/

namespace Sys2Proof.Machine

/-! ### The context a position gives (10_state.md R18, R19) -/

theorem Inv.context_idle {s : State} (h : Inv s) (hf : s.fsm = .idle) :
    s.op = .none ∧ s.idx = 0 ∧ s.origin = .none ∧ s.hostOp = 0 ∧ s.loopPhase = .off := by
  simpa only [contextOk, hf] using h.context

theorem Inv.context_exec {s : State} (h : Inv s) (hf : s.fsm = .exec) : execOwned s ∧ s.idx = 0 := by
  simpa only [contextOk, hf] using h.context

theorem Inv.context_loopWait {s : State} (h : Inv s) (hf : s.fsm = .loopWait) :
    s.op = .none ∧ s.idx = 0 ∧ s.origin = .loop ∧ s.hostOp = 0 ∧ s.loopPhase = .wait := by
  simpa only [contextOk, hf] using h.context

theorem Inv.context_rxFrame {s : State} (h : Inv s) (hf : s.fsm = .rxFrame) : linkOwned s ∧ s.op = .read ∧ s.idx < 64 := by
  simpa only [contextOk, hf] using h.context

/-! ### The positions of a link operation -/

/-- A link operation in flight, wherever it stands: its owner fits it, and a set of the sequencer is within the clamp. -/
structure InLink (s : State) : Prop extends Steady s where
  owned : linkOwned s
  clamped : s.op = .set → s.origin ≠ .host → s.setVal.toNat ≤ Config.clampMax

theorem Inv.inLink {s : State} (h : Inv s) (hf : s.fsm.sending = true ∨ s.fsm.receiving = true) : InLink s := by
  have hc := h.context
  refine { h with owned := ?_ }
  cases hs : s.fsm <;> simp only [contextOk, hs, Fsm.sending, Fsm.receiving, reduceCtorEq, or_self] at hc hf
  all_goals exact hc.1

section
variable {s : State}

/-- The handshake's next position (42_protocol.md R97). -/
theorem InLink.enter_handshake (h : InLink s) (hi : s.idx = 0) {f : Fsm} (hf : f = .rxEnqAck ∨ f = .txReq ∨ f = .rxReqAck) :
    Inv (enter f s) := by
  have hs : Steady (enter f s) := h.of_steadyView_eq rfl
  rcases hf with rfl | rfl | rfl <;> exact hs.inv rfl ⟨h.owned, hi⟩ h.clamped

/-- A verified frame is acknowledged (42_protocol.md R101). -/
theorem InLink.enter_txFrameAck (h : InLink s) (hop : s.op = .read) (hi : s.idx = 64) : Inv (enter .txFrameAck s) :=
  Steady.inv (h.of_steadyView_eq rfl) rfl ⟨h.owned, hop, hi⟩ h.clamped

/-- Every byte of an element frame is sent (42_protocol.md R97). -/
theorem InLink.enter_rxFrameAck (h : InLink s) (hop : s.op = .set) (hi : s.idx = 64)
    (he : s.eframe = elementVector s.setVal ∧ s.lastOnTime = s.setVal) : Inv (enter .rxFrameAck s) :=
  { h with
    context := ⟨h.owned, hop, hi⟩
    frameSent := fun _ => he
    collecting := nofun }

/-- An element frame in flight (42_protocol.md R97, R104). -/
theorem InLink.inv_txFrame (h : InLink s) (hf : s.fsm = .txFrame) (hop : s.op = .set) (hi : s.idx < 64)
    (he : s.eframe = elementVector s.setVal ∧ s.lastOnTime = s.setVal) : Inv s :=
  { h with
    context := by simp only [contextOk, hf]; exact ⟨h.owned, hop, hi⟩
    frameSent := fun _ => he
    collecting := by rw [hf]; nofun }

/-- `acc` and `pay` are those of the frame bytes taken (42_protocol.md R100). -/
def collectedFits (s : State) : Prop :=
  s.collected.length = s.idx ∧ s.acc = cks s.collected ∧ ∀ i : Fin 4, i.val < s.idx → s.collected[i.val]? = some s.pay[i]

/-- A temperature frame in collection (42_protocol.md R100). -/
theorem InLink.inv_rxFrame (h : InLink s) (hf : s.fsm = .rxFrame) (hop : s.op = .read) (hi : s.idx < 64)
    (hc : collectedFits s) : Inv s :=
  { h with
    context := by simp only [contextOk, hf]; exact ⟨h.owned, hop, hi⟩
    frameSent := by rw [hf]; rintro (hs | hs) <;> cases hs
    collecting := fun _ => hc }

/-! ### A temperature frame -/

theorem cks_append_singleton (bs : List Byte) (b : Byte) : cks (bs ++ [b]) = cksAdd (cks bs) b := by
  simp [cks]

/-- A checked byte keeps `acc` and `pay` those of the bytes taken (42_protocol.md R100). -/
theorem collectedFits.collectBytes (h : collectedFits s) (b : Byte) : collectedFits (collectBytes [b] s) := by
  obtain ⟨hl, ha, hp⟩ := h
  refine ⟨by simp [Machine.collectBytes, hl], ?_, fun i hi => ?_⟩
  · exact (congrArg (cksAdd · b) ha).trans (cks_append_singleton s.collected b).symm
  · simp only [Machine.collectBytes, storePay, List.length_singleton] at hi ⊢
    rcases Nat.lt_or_ge i.val s.idx with hlt | hge
    · rw [List.getElem?_append_left (by omega), hp i hlt]
      split
      · simp [show s.idx ≠ i.val by omega]
      · rfl
    · have he : i.val = s.idx := by omega
      have h3 : s.idx ≤ 3 := by omega
      simp only [if_pos h3, Fin.getElem_fin, he]
      simp [← hl]

/-- What a stale frame records before its operation ends (42_protocol.md R103). -/
def recordStale (s : State) : State :=
  sessionOnStale (recordError .checksumMismatch 4 s.trailer 1 (decide (s.origin ≠ .host)) (setIpr iprStale { s with fresh := false }))

theorem stale_eq (s : State) : stale s = endLink .stale (recordStale s) := rfl

theorem Steady.stale (h : Steady s) (ho : linkOwned s) : Inv (stale s) := by
  have hp : s.fatal = true → Session.deviceError = .deviceError ∧ s.loopEn = false ∧ s.loopRun = false :=
    fun hf => ⟨rfl, (h.fatalPins hf).2⟩
  have hs : Steady (recordStale s) := { h with fatalPins := hp }
  rw [stale_eq]
  exact hs.endLink ho .stale

/-- The whole frame is verified: its reading is pending, or it is stale (42_protocol.md R101). -/
theorem InLink.verifyFrame (h : InLink s) (hop : s.op = .read) (hi : s.idx = 64) : Inv (verifyFrame s) := by
  unfold Machine.verifyFrame
  dsimp only
  split
  · exact InLink.enter_txFrameAck ⟨h.of_steadyView_eq rfl, h.owned, h.clamped⟩ hop hi
  · exact Steady.stale (h.of_steadyView_eq rfl) h.owned

theorem Inv.rxFrameByte (h : Inv s) (hf : s.fsm = .rxFrame) (b : Byte) : Inv (rxFrameByte b s) := by
  have hl : InLink s := h.inLink (.inr (by rw [hf]; rfl))
  obtain ⟨-, hop, hi⟩ := h.context_rxFrame hf
  rcases Nat.lt_or_ge 62 s.idx with hlt | hle
  · rw [rxFrameByte_of_eq (by omega)]
    exact InLink.verifyFrame ⟨hl.of_steadyView_eq rfl, hl.owned, hl.clamped⟩ hop rfl
  · have hs : Steady (collectBytes [b] s) := { hl.toSteady with accRange := cksAdd_lt s.acc b }
    rw [rxFrameByte_eq_collectBytes hle]
    exact InLink.inv_rxFrame ⟨hs, hl.owned, hl.clamped⟩ hf hop (Nat.lt_succ_of_le (Nat.succ_le_succ hle))
      (collectedFits.collectBytes (h.collecting hf) b)

/-! ### Replies and acceptances -/

theorem linkOwned.op_cases (h : linkOwned s) : s.op = .read ∨ s.op = .set := by
  rcases h with ⟨-, -, hp⟩ | ⟨-, -, hp⟩ | ⟨-, -, hp⟩
  · exact hp.imp And.left And.left
  · exact (hp.imp And.left And.left).symm
  · rcases hp with hp | hp | hp
    · exact .inl hp.1
    · exact .inr hp.1
    · exact .inl hp.1

/-- Taking a byte out of the FIFO (41_devicelink.md R90). -/
theorem Inv.popRx (h : Inv s) : Inv (popRx s) :=
  { h with fifoBound := Nat.le_trans (by simp [Machine.popRx]) h.fifoBound }

/-- An arriving byte keeps the bound of the FIFO (41_devicelink.md R90). -/
theorem Inv.deviceSend (h : Inv s) (b : Byte) : Inv (deviceSend b s) := by
  rcases Nat.lt_or_ge s.rxfifo.length Config.rxfDepth with hlt | hge
  · rw [deviceSend_of_lt hlt]
    have hb : (s.rxfifo ++ [b]).length ≤ Config.rxfDepth := by simpa using hlt
    exact { h with fifoBound := hb }
  · rw [deviceSend_of_ge hge]
    exact h.of_invView_eq rfl

/-- An accepted request opens the frame of its kind (42_protocol.md R97, R104). -/
theorem InLink.acceptRequest (h : InLink s) (hf : s.fsm = .rxReqAck) (hi : s.idx = 0) : Inv (acceptReply s) := by
  simp only [acceptReply, hf]
  split
  next hop =>
    have hs : Steady (enter .rxFrame { s with idx := 0, acc := 0, collected := [] }) :=
      { h.toSteady with accRange := Nat.zero_lt_succ _ }
    exact InLink.inv_rxFrame { hs with owned := h.owned, clamped := h.clamped } rfl hop (Nat.zero_lt_succ _) ⟨rfl, rfl, nofun⟩
  next hop =>
    have hs : Steady (enter .txFrame (buildElementFrame s)) := { h.toSteady with accRange := cks_lt _ }
    exact InLink.inv_txFrame { hs with owned := h.owned, clamped := h.clamped } rfl (h.owned.op_cases.resolve_left hop)
      (hi.trans_lt (Nat.zero_lt_succ _)) ⟨rfl, rfl⟩

theorem Inv.acceptReply (h : Inv s) : Inv (acceptReply s) := by
  have hc := h.context
  cases hf : s.fsm <;> simp only [contextOk, hf] at hc
  case rxReqAck => exact (h.inLink (.inr (by rw [hf]; rfl))).acceptRequest hf hc.2
  case rxEnqAck =>
    simp only [Machine.acceptReply, hf]
    exact (h.inLink (.inr (by rw [hf]; rfl))).enter_handshake hc.2 (.inr (.inl rfl))
  case rxFrameAck =>
    simp only [Machine.acceptReply, hf]
    exact h.steady.endLink hc.1 .ok
  all_goals simpa only [Machine.acceptReply, hf] using h

theorem Steady.commitReading (h : Steady s) : Steady (commitReading s) := by
  unfold Machine.commitReading sessionOnFresh
  split
  next hs => exact { h with fatalPins := fun hf => absurd hf hs.2 }
  next => exact h.of_steadyView_eq rfl

theorem commitReading_linkOwned : linkOwned (commitReading s) ↔ linkOwned s := by
  unfold commitReading sessionOnFresh
  split <;> rfl

/-- A frame byte accepted (42_protocol.md R97). -/
theorem afterAccept_of_txFrame (hf : s.fsm = .txFrame) :
    afterAccept s =
      if s.idx + 1 = 64 then enter .rxFrameAck { s with idx := s.idx + 1 } else { s with idx := s.idx + 1 } := by
  simp only [afterAccept, hf]

/-- The transition out of a sending state keeps the invariant (42_protocol.md R97). -/
theorem Inv.afterAccept (h : Inv s) : Inv (afterAccept s) := by
  have hc := h.context
  cases hf : s.fsm <;> simp only [contextOk, hf] at hc
  case txEnq =>
    simp only [Machine.afterAccept, hf]
    exact (h.inLink (.inl (by rw [hf]; rfl))).enter_handshake hc.2 (.inl rfl)
  case txReq =>
    simp only [Machine.afterAccept, hf]
    exact (h.inLink (.inl (by rw [hf]; rfl))).enter_handshake hc.2 (.inr (.inr rfl))
  case txFrameAck =>
    simp only [Machine.afterAccept, hf]
    exact h.steady.commitReading.endLink (commitReading_linkOwned.2 hc.1) .ok
  case txFrame =>
    obtain ⟨ho, hop, hi⟩ := hc
    have hl : InLink { s with idx := s.idx + 1 } := { h.steady.of_steadyView_eq rfl with owned := ho, clamped := h.clamped }
    rw [afterAccept_of_txFrame hf]
    split
    next h64 => exact hl.enter_rxFrameAck hop h64 (h.frameSent (.inl hf))
    next h64 => exact hl.inv_txFrame hf hop (by dsimp only; omega) (h.frameSent (.inl hf))
  all_goals simpa only [Machine.afterAccept, hf] using h

theorem Inv.deviceAccept (h : Inv s) : Inv (deviceAccept s) := by
  unfold Machine.deviceAccept
  split
  · exact Inv.afterAccept (h.of_invView_eq rfl)
  · exact h

/-! ### The engine's other steps -/

theorem Inv.denyReply (h : Inv s) (b : Byte) : Inv (denyReply b s) := h.steady.raiseError rfl _ _ _

theorem Inv.timeoutStep (h : Inv s) : Inv (timeoutStep s) := by
  unfold Machine.timeoutStep
  split
  · exact h.steady.raiseError rfl _ _ _
  · exact h

theorem Inv.rxFrameStep (h : Inv s) : Inv (rxFrameStep s) := by
  unfold Machine.rxFrameStep
  split
  next b rest hf hr =>
    have hp : Inv { s with rxfifo := rest } := by simpa only [Machine.popRx, hr, List.tail_cons] using h.popRx
    exact hp.rxFrameByte hf b
  next => exact h

/-- The start of the loop, which a fatal error forbids (45_control_loop.md R122). -/
theorem Inv.loopStart (h : Inv s) (hc : loopCanStart s = true) : Inv (loopStart s) := by
  have hf : s.fatal ≠ true := by
    intro hf
    simp [loopCanStart, hf] at hc
  have hs : Steady { s with loopRun := true, origin := .loop, hostOp := 0, loopPhase := .initRead } :=
    { h.steady with fatalPins := fun hf' => absurd hf' hf, loopRunIff := ⟨fun _ => rfl, fun _ => rfl⟩ }
  exact hs.seqStartLink (.inr (.inr ⟨rfl, rfl, .inl ⟨rfl, rfl⟩⟩)) nofun

theorem Inv.loopWaitStep (h : Inv s) (hf : s.fsm = .loopWait) : Inv (loopWaitStep s) := by
  obtain ⟨hop, hi, ho, hh, -⟩ := h.context_loopWait hf
  unfold Machine.loopWaitStep
  split
  · split
    · exact h.steady.beginCycle ho hop hi hh
    · exact h.steady.loopStop hop hi hh
  · exact h

theorem sessionAtCycleStart_of_fatal (hf : s.fatal = true) : sessionAtCycleStart s = { s with heatEntry := false } := by
  simp [sessionAtCycleStart, hf]

theorem Steady.sessionAtCycleStart (h : Steady s) : Steady (sessionAtCycleStart s) := by
  have hp (hf : s.fatal = true) :
      (Machine.sessionAtCycleStart s).session = .deviceError ∧ s.loopEn = false ∧ s.loopRun = false := by
    rw [sessionAtCycleStart_of_fatal hf]
    exact h.fatalPins hf
  rw [sessionAtCycleStart_frame]
  exact { h with fatalPins := hp }

/-- The computation of a cycle's EXEC step changes nothing that says who owns it (45_control_loop.md R121). -/
theorem controlCompute_owner (s : State) :
    (controlCompute (sessionAtCycleStart s)).1.origin = s.origin ∧
      (controlCompute (sessionAtCycleStart s)).1.hostOp = s.hostOp ∧
      (controlCompute (sessionAtCycleStart s)).1.loopPhase = s.loopPhase := by
  rw [controlCompute_frame, sessionAtCycleStart_frame]
  exact ⟨rfl, rfl, rfl⟩

theorem Steady.controlCompute (h : Steady s) : Steady (controlCompute s).1 := by
  rw [controlCompute_frame]
  exact h.of_steadyView_eq rfl

/-- The EXEC step of a cycle, with its owner and the clamp of what it sets (45_control_loop.md R121, R125). -/
theorem Inv.controlStep (h : Inv s) (hf : s.fsm = .exec) (ho : s.origin ≠ .host) : Inv (controlStep s) := by
  rcases Bool.eq_false_or_eq_true s.linkUp with hl | hl
  · obtain ⟨⟨-, hown⟩, -⟩ := h.context_exec hf
    simp only [ho, false_and, false_or] at hown
    have hs := h.steady.sessionAtCycleStart.controlCompute
    have hu := controlCompute_owner s
    have hle := @controlCompute_le (Machine.sessionAtCycleStart s)
    rw [controlStep_of_up hl]
    generalize Machine.controlCompute (Machine.sessionAtCycleStart s) = p at hs hu hle ⊢
    obtain ⟨u, ot⟩ := p
    obtain ⟨huo, huh, hup⟩ := hu
    dsimp only at hs huo huh hup hle
    rw [← huo, ← huh, ← hup] at hown
    cases ot with
    | none =>
      have hr : Steady { u with loopPhase := .cycleRead } := hs.of_steadyView_eq rfl
      refine hr.seqStartLink (.inr ?_) nofun
      exact hown.imp (fun ⟨ho, hh, _⟩ => ⟨ho, hh, .inr ⟨rfl, rfl⟩⟩) (fun ⟨ho, hh, _⟩ => ⟨ho, hh, .inr (.inr ⟨rfl, rfl⟩)⟩)
    | some ms =>
      have hr : Steady { u with setVal := ms } := hs.of_steadyView_eq rfl
      refine hr.seqStartLink (.inr ?_) (fun _ _ => hle rfl)
      exact hown.imp (fun ⟨ho, hh, hp⟩ => ⟨ho, hh, .inl ⟨rfl, hp⟩⟩) (fun ⟨ho, hh, hp⟩ => ⟨ho, hh, .inr (.inl ⟨rfl, hp⟩)⟩)
  · rw [controlStep_of_down hl]
    exact h.steady.raiseError rfl _ _ _

/-- The EXEC step of a host command (43_pid.md R108, R109). -/
theorem Inv.endHost_of_exec (h : Inv s) (hf : s.fsm = .exec) (ho : s.origin = .host) : Inv (endHost s) := by
  obtain ⟨⟨hop, hown⟩, hi⟩ := h.context_exec hf
  simp only [ho, reduceCtorEq, true_and, false_and, or_false] at hown
  exact h.steady.endHost (by rw [ho]; decide) hop hi hown.2

theorem EngineStep.inv {t : State} (h : Inv s) (ht : EngineStep s t) : Inv t := by
  cases ht with
  | acceptReply hr => exact h.popRx.acceptReply
  | denyReply hr => exact h.popRx.denyReply _
  | stay => exact h
  | loopStart hf hc => exact h.loopStart hc
  | timeout => exact h.timeoutStep
  | frameByte hf => exact h.rxFrameStep
  | control hf ho => exact h.controlStep hf ho
  | pidCompute hf ho hop => exact (h.endHost_of_exec hf ho).of_invView_eq rfl
  | pidClear hf ho hop => exact (h.endHost_of_exec hf ho).of_invView_eq rfl
  | loopWait hf => exact h.loopWaitStep hf

end
end Sys2Proof.Machine
end

section
/-! PROOFS. The invariant through the host's steps, and through every turn and step. -/

namespace Sys2Proof.Machine

section
variable {s : State}

/-! ### Commands -/

/-- Where no command is rejected, the engine rests in IDLE (30_encoding.md R73). -/
theorem Inv.idle_of_not_blocked (h : Inv s) (hb : ¬ cmdBlocked s = true) : s.fsm = .idle := by
  cases hf : s.fsm <;> simp [cmdBlocked, busy, hf] at hb
  case idle => rfl
  case loopWait =>
    obtain ⟨-, -, ho, -⟩ := h.context_loopWait hf
    simp [h.loopRunIff.2 ho] at hb

/-- A command's owner takes the engine from IDLE (30_encoding.md R73). -/
theorem Inv.steady_accepted (h : Inv s) (hf : s.fsm = .idle) (op : BitVec 4) {o : Origin} (ho : o ≠ .loop) :
    Steady { s with hostOp := op, origin := o } := by
  obtain ⟨-, -, hs, -⟩ := h.context_idle hf
  have hr : s.loopRun ≠ true := fun hr => by cases hs.symm.trans (h.loopRunIff.1 hr)
  exact { h.steady with loopRunIff := ⟨fun hl => absurd hl hr, fun hl => absurd hl ho⟩ }

/-- A command for which the link is down (30_encoding.md R73, 60_exceptions.md R131). -/
theorem Inv.linkDown (h : Inv s) (hf : s.fsm = .idle) (op : BitVec 4) (seq : Bool) :
    Inv (setIpr iprDone (recordError .connectionError 0 0 op seq s)) := by
  obtain ⟨hop, hi, ho, hh, -⟩ := h.context_idle hf
  rw [recordError_of_fatal rfl]
  refine Steady.inv_idle { h.steady with
    fatalPins := fun _ => ⟨rfl, rfl, rfl⟩, loopRunIff := ⟨nofun, fun hl => ?_⟩ } hf hop hi ho hh rfl
  cases ho.symm.trans hl

/-- A command keeps the invariant where its own arm keeps it from IDLE (30_encoding.md R73). -/
theorem Inv.acceptCmd (h : Inv s) {op : BitVec 4} {needsLink : Bool} {o : Origin} {start : State → State}
    (hs : s.fsm = .idle → Inv (start { s with hostOp := op, origin := o })) : Inv (acceptCmd op needsLink o start s) := by
  unfold Machine.acceptCmd
  split
  next => exact h.of_invView_eq rfl
  next hb =>
    split
    · exact h.linkDown (h.idle_of_not_blocked hb) _ _
    · exact hs (h.idle_of_not_blocked hb)

theorem Inv.reservedCmd (h : Inv s) (op : BitVec 4) : Inv (reservedCmd op s) := by
  unfold Machine.reservedCmd
  split <;> exact h.of_invView_eq rfl

theorem CommandStep.inv {t : State} (h : Inv s) (ht : CommandStep s t) : Inv t := by
  cases ht with
  | nop => exact h
  | readTemps =>
    refine h.acceptCmd fun hf => ?_
    obtain ⟨-, -, -, -, hp⟩ := h.context_idle hf
    exact (h.steady_accepted hf 0x1 (by decide)).startLink (.inl ⟨rfl, hp, .inl ⟨rfl, rfl⟩⟩) nofun
  | setElement =>
    refine h.acceptCmd fun hf => ?_
    obtain ⟨-, -, -, -, hp⟩ := h.context_idle hf
    have hs : Steady { s with hostOp := 0x2, origin := .host, setVal := s.onTime } :=
      (h.steady_accepted hf 0x2 (by decide)).of_steadyView_eq rfl
    exact hs.startLink (.inl ⟨rfl, hp, .inr ⟨rfl, rfl⟩⟩) (fun _ ho => absurd rfl ho)
  | pidCompute =>
    refine h.acceptCmd fun hf => ?_
    obtain ⟨hop, hi, -, -, hp⟩ := h.context_idle hf
    exact Steady.inv_exec { h.steady_accepted hf 0x3 (o := .host) (by decide) with
      snapRange := ⟨inS32_sext _, inS32_sext _, inS32_sext _, inS32_sext _⟩ } rfl ⟨hop, .inl ⟨rfl, .inl rfl, hp⟩⟩ hi
  | pidClear =>
    refine h.acceptCmd fun hf => ?_
    obtain ⟨hop, hi, -, -, hp⟩ := h.context_idle hf
    exact Steady.inv_exec { h.steady_accepted hf 0x4 (o := .host) (by decide) with } rfl ⟨hop, .inl ⟨rfl, .inr rfl, hp⟩⟩ hi
  | cycle =>
    refine h.acceptCmd fun hf => ?_
    obtain ⟨hop, hi, -⟩ := h.context_idle hf
    exact Steady.inv_exec { h.steady_accepted hf 0x5 (o := .cycleCmd) (by decide) with } rfl
      ⟨hop, .inr (.inl ⟨rfl, rfl, rfl⟩)⟩ hi
  | flush =>
    refine h.acceptCmd fun hf => ?_
    obtain ⟨hop, hi, -, -, hp⟩ := h.context_idle hf
    exact Steady.inv_idle { h.steady_accepted hf 0 (o := .none) (by decide) with fifoBound := Nat.zero_le _ }
      hf hop hi rfl rfl hp
  | reserved op => exact h.reservedCmd op

/-! ### Register writes -/

/-- A write of `CTRL` cannot set `LOOP_EN` while `FATAL` stands (10_state.md R24). -/
theorem Inv.writeCtrl (h : Inv s) (v : Word) : Inv (writeCtrl v s) := by
  have hp (hf : s.fatal = true) : s.session = .deviceError ∧ (v.getLsbD 1 && !s.fatal) = false ∧ s.loopRun = false := by
    obtain ⟨hs, -, hr⟩ := h.fatalPins hf
    exact ⟨hs, by simp [hf], hr⟩
  exact { h with fatalPins := hp }

theorem Inv.writeStatus (h : Inv s) (v : Word) : Inv (writeStatus v s) := by
  have hp (hf : (s.fatal && !v.getLsbD 6) = true) :
      (if v.getLsbD 6 = true ∧ s.session = .deviceError then .idle else s.session) = Session.deviceError ∧
        s.loopEn = false ∧ s.loopRun = false := by
    rw [Bool.and_eq_true, Bool.not_eq_true'] at hf
    rw [if_neg fun hs => by cases hf.2.symm.trans hs.1]
    exact h.fatalPins hf.1
  rw [writeStatus_eq]
  exact { h with fatalPins := hp }

theorem Inv.regWrite (h : Inv s) (r : Reg) (v : Word) : Inv (regWrite r v s) := by
  cases r
  case ctrl => exact h.writeCtrl v
  case status => exact h.writeStatus v
  case cksAcc => exact { h with cksAccRange := Nat.zero_lt_succ _ }
  all_goals exact h.of_invView_eq rfl

theorem Inv.windowWrite (h : Inv s) (a : BitVec 8) (v : Word) : Inv (windowWrite a v s) := by
  unfold Machine.windowWrite
  split
  · exact h.regWrite _ v
  · exact h

/-! ### Every turn and every step -/

theorem inv_reset : Inv State.reset where
  accRange := by decide
  cksAccRange := by decide
  fifoBound := Nat.zero_le _
  fatalPins := nofun
  loopRunIff := ⟨nofun, nofun⟩
  context := ⟨rfl, rfl, rfl, rfl, rfl⟩
  frameSent := by rintro (h | h) <;> cases h
  collecting := nofun
  clamped := nofun
  snapRange := by unfold inS32; decide

theorem inv_resetPulse (s : State) : Inv (resetPulse s) := inv_reset.of_invView_eq rfl

theorem TurnStep.inv {e : Event} {t : State} (h : Inv s) (ht : TurnStep s e t) : Inv t := by
  cases ht with
  | command _ _ hc => exact hc.inv h
  | cksData _ => exact { h with cksAccRange := cksAdd_lt _ _ }
  | write a v => exact h.windowWrite a v
  | deviceSend b => exact h.deviceSend b
  | deviceAccept => exact h.deviceAccept
  | engine _ he => exact he.inv h
  | reset => exact inv_resetPulse s
  | hostRead _ | tick | link _ => exact h.of_invView_eq rfl

/-- A step is the turn of its event on a state that differs in the schedule alone (log 1, 2). -/
theorem Inv.nextEvent (h : Inv s) : Inv (nextEvent s).2 := by
  unfold Machine.nextEvent
  split <;> exact h.of_invView_eq rfl

/-- Settles O58: a step is a turn, and every case of a turn keeps the invariant. -/
theorem stepKeepsInvariant : Obligations.StepKeepsInvariant :=
  fun _ _ h ht => (turn_next ht).inv h.nextEvent

/-- Settles O57: every field of the reset state, and that a pulse leads to it up to what is not PBSE's. -/
theorem invariantAtReset : Obligations.InvariantAtReset :=
  ⟨inv_reset, fun s => ⟨resetPulse s, turn_reset s, inv_resetPulse s, rfl⟩⟩

/-! ### A fatal error stands -/

theorem raiseError_fatal {code : ErrCode} (hc : code.isFatal = true) (phase : BitVec 3) (byte : Byte) (given : BitVec 4)
    (s : State) : (raiseError code phase byte given s).fatal = true := by
  rw [raiseError_of_fatal hc]

theorem startLink_fatal (k : LinkOp) (s : State) : (startLink k s).fatal = s.fatal := by
  rw [startLink_eq]

theorem seqStartLink_fatal (h : s.fatal = true) (k : LinkOp) : (seqStartLink k s).fatal = true := by
  unfold seqStartLink
  split
  · exact (startLink_fatal k s).trans h
  · exact raiseError_fatal rfl _ _ _ s

theorem sequencerContinue_fatal (h : s.fatal = true) (r : LinkResult) : (sequencerContinue r s).fatal = true := by
  cases hp : s.loopPhase
  case initRead => rw [sequencerContinue_of_initRead hp]; split <;> exact h
  case cycleSet => rw [sequencerContinue_of_cycleSet hp]; exact seqStartLink_fatal (by exact h) .read
  case cycleRead => rw [sequencerContinue_of_cycleRead hp]; split <;> exact h
  all_goals simpa only [sequencerContinue, hp] using h

theorem endLink_fatal (h : s.fatal = true) (r : LinkResult) : (endLink r s).fatal = true := by
  unfold endLink
  dsimp only
  split
  · exact h
  · exact sequencerContinue_fatal (by exact h) r

theorem acceptReply_fatal (h : s.fatal = true) : (acceptReply s).fatal = true := by
  cases hf : s.fsm <;> simp only [acceptReply, hf]
  case rxReqAck => split <;> exact h
  case rxFrameAck => exact endLink_fatal h .ok
  all_goals exact h

theorem commitReading_fatal (s : State) : (commitReading s).fatal = s.fatal := by
  unfold commitReading sessionOnFresh
  split <;> rfl

theorem deviceAccept_fatal (h : s.fatal = true) : (deviceAccept s).fatal = true := by
  unfold deviceAccept
  split
  next =>
    cases hf : s.fsm <;> simp only [afterAccept, sendByte_fsm, hf]
    case txFrameAck => exact endLink_fatal (by rw [commitReading_fatal]; exact h) .ok
    case txFrame => split <;> exact h
    all_goals exact h
  next => exact h

theorem verifyFrame_fatal (h : s.fatal = true) : (verifyFrame s).fatal = true := by
  unfold verifyFrame
  dsimp only
  split
  · exact h
  · rw [stale_eq]
    exact endLink_fatal (by exact h) .stale

theorem rxFrameByte_fatal (h : s.fatal = true) (hi : s.idx < 64) (b : Byte) : (rxFrameByte b s).fatal = true := by
  rcases Nat.lt_or_ge 62 s.idx with hlt | hle
  · rw [rxFrameByte_of_eq (by omega)]
    exact verifyFrame_fatal (by exact h)
  · rw [rxFrameByte_of_le hle]
    exact h

theorem rxFrameStep_fatal (h : s.fatal = true) (hi : s.idx < 64) : (rxFrameStep s).fatal = true := by
  unfold rxFrameStep
  split
  · exact rxFrameByte_fatal (by exact h) (by exact hi) _
  · exact h

theorem controlStep_fatal (h : s.fatal = true) : (controlStep s).fatal = true := by
  rcases Bool.eq_false_or_eq_true s.linkUp with hl | hl
  · rw [controlStep_of_up hl]
    have hu : (controlCompute (sessionAtCycleStart s)).1.fatal = true := by
      rw [controlCompute_frame, sessionAtCycleStart_frame]
      exact h
    split
    all_goals next heq => exact seqStartLink_fatal (by rw [heq] at hu; exact hu) _
  · rw [controlStep_of_down hl]
    exact raiseError_fatal rfl _ _ _ s

theorem EngineStep.fatal {t : State} (hs : Inv s) (h : s.fatal = true) (ht : EngineStep s t) : t.fatal = true := by
  cases ht with
  | acceptReply _ => exact acceptReply_fatal (s := popRx s) h
  | denyReply _ => exact raiseError_fatal rfl _ _ _ _
  | timeout =>
    unfold timeoutStep
    split
    · exact raiseError_fatal rfl _ _ _ s
    · exact h
  | frameByte hf =>
    obtain ⟨-, -, hi⟩ := hs.context_rxFrame hf
    exact rxFrameStep_fatal h hi
  | control _ _ => exact controlStep_fatal h
  | loopStart _ hc => simp [loopCanStart, h] at hc
  | loopWait _ =>
    rw [loopWaitStep_frame]
    exact h
  | stay | pidCompute _ _ _ | pidClear _ _ _ => exact h

theorem acceptCmd_fatal (h : s.fatal = true) {op : BitVec 4} {needsLink : Bool} {o : Origin} {start : State → State}
    (hs : (start { s with hostOp := op, origin := o }).fatal = s.fatal) : (acceptCmd op needsLink o start s).fatal = true := by
  unfold acceptCmd
  split
  · exact h
  · split
    · rw [recordError_of_fatal rfl, setIpr_fatal]
    · exact hs.trans h

theorem CommandStep.fatal {t : State} (h : s.fatal = true) (ht : CommandStep s t) : t.fatal = true := by
  cases ht with
  | nop => exact h
  | readTemps | setElement => exact acceptCmd_fatal h (startLink_fatal _ _)
  | pidCompute | pidClear | cycle | flush => exact acceptCmd_fatal h rfl
  | reserved op =>
    unfold reservedCmd
    split <;> exact h

/-- Only the write of 1 to `STATUS.FATAL` clears it (10_state.md R25). -/
theorem windowWrite_fatal {a : BitVec 8} {v : Word} (h : s.fatal = true) (hc : clearsFatal (.hostWrite a v) = false) :
    (windowWrite a v s).fatal = true := by
  unfold windowWrite
  cases hr : Reg.ofOffset a with
  | none => exact h
  | some r =>
    cases r
    case status =>
      have hv : v.getLsbD 6 = false := by simpa [clearsFatal, hr] using hc
      simp only [regWrite, writeStatus_eq, h, hv, Bool.not_false, Bool.and_true]
    all_goals exact h

theorem TurnStep.fatal {e : Event} {t : State} (hs : Inv s) (h : s.fatal = true) (hc : clearsFatal e = false) (hr : e ≠ .reset)
    (ht : TurnStep s e t) : t.fatal = true := by
  cases ht with
  | command _ _ hc => exact hc.fatal h
  | write a v => exact windowWrite_fatal h hc
  | deviceSend b => rw [deviceSend_frame]; exact h
  | deviceAccept => exact deviceAccept_fatal h
  | engine _ he => exact he.fatal hs h
  | reset => exact absurd rfl hr
  | hostRead _ | tick | link _ | cksData _ => exact h

/-- Settles O43: the invariant holds after the turn, and `FATAL` still stands. -/
theorem fatalErrorPinsSession : Obligations.FatalErrorPinsSession := by
  intro e s t h hf hc hr ht
  have hft := (turn_next ht).fatal h hf hc hr
  exact ⟨hft, ((turn_next ht).inv h).fatalPins hft⟩

/-! ### Progress -/

/-- In EXEC the computation has an owner (log 11). -/
theorem Inv.execStep (h : Inv s) (hf : s.fsm = .exec) : ∃ t, execStep s = .next t := by
  obtain ⟨⟨-, ho⟩, -⟩ := h.context_exec hf
  unfold Machine.execStep
  rcases ho with ⟨ho, hh, -⟩ | ⟨ho, -⟩ | ⟨ho, -⟩ <;> rw [ho]
  · rcases hh with hh | hh <;> rw [hh] <;> exact ⟨_, rfl⟩
  · exact ⟨_, rfl⟩
  · exact ⟨_, rfl⟩

theorem Inv.engineStep (h : Inv s) : ∃ t, engineStep s = .next t := by
  cases hf : s.fsm <;> simp only [Machine.engineStep, hf]
  case exec => exact h.execStep hf
  all_goals exact ⟨_, rfl⟩

theorem Inv.turn_engine (h : Inv s) : ∃ t, turn .engine s = .next t := by
  cases hr : replyByte s with
  | none => rw [turn_engine_of_none hr]; exact h.engineStep
  | some b => exact ⟨_, turn_engine_of_reply hr⟩

theorem turn_hostWrite_next (a : BitVec 8) (v : Word) (s : State) : ∃ t, turn (.hostWrite a v) s = .next t := by
  rw [turn_hostWrite]
  split
  · obtain ⟨t, ht, -⟩ := exec_decodeCmd v s
    exact ⟨t, ht⟩
  · split <;> exact ⟨_, rfl⟩

/-- Settles O59: by the event; the engine by its position. -/
theorem safeStatesNeverStop : Obligations.SafeStatesNeverStop := by
  refine ⟨fun e s h hn => ?_, turn_hostNarrow⟩
  cases e with
  | hostWrite a v => exact turn_hostWrite_next a v s
  | hostNarrow a => exact absurd rfl (hn a)
  | deviceAccept => exact ⟨_, turn_deviceAccept s⟩
  | engine => exact h.turn_engine
  | hostRead _ | deviceSend _ | tick | link _ | reset => exact ⟨_, rfl⟩

end

end Sys2Proof.Machine
end

section
/-! PROOFS. What the turns leave unchanged: the time base, the operand registers, the temperatures and the PID state. -/

namespace Sys2Proof.Machine

section
variable {s t : State} {e : Event}

/-- A register write (10_state.md R22 to R46). -/
theorem windowWrite_frame (a : BitVec 8) (v : Word) (s : State) :
    windowWrite a v s = { s with
      start := (windowWrite a v s).start, loopEn := (windowWrite a v s).loopEn
      autoflush := (windowWrite a v s).autoflush, pidAutoclr := (windowWrite a v s).pidAutoclr
      fatal := (windowWrite a v s).fatal, session := (windowWrite a v s).session, pidSat := (windowWrite a v s).pidSat
      rxOvf := (windowWrite a v s).rxOvf, errCause := (windowWrite a v s).errCause, ier := (windowWrite a v s).ier
      ipr := (windowWrite a v s).ipr, timeout := (windowWrite a v s).timeout, target := (windowWrite a v s).target
      onTime := (windowWrite a v s).onTime, kp := (windowWrite a v s).kp, ki := (windowWrite a v s).ki
      kd := (windowWrite a v s).kd, errIn := (windowWrite a v s).errIn, ecoef := (windowWrite a v s).ecoef
      mscoef := (windowWrite a v s).mscoef, cyclePeriod := (windowWrite a v s).cyclePeriod
      cksAcc := (windowWrite a v s).cksAcc } := by
  unfold windowWrite
  cases Reg.ofOffset a with
  | none => rfl
  | some r =>
    cases r
    case status => unfold regWrite; rw [writeStatus_eq]
    all_goals rfl

/-- A command (30_encoding.md R73). -/
theorem exec_decodeCmd_eq {v : Word} (h : exec (decodeCmd v) s = .next t) : t = { s with
      fsm := t.fsm, op := t.op, idx := t.idx, origin := t.origin, hostOp := t.hostOp, loopPhase := t.loopPhase
      loopRun := t.loopRun, loopEn := t.loopEn, ipr := t.ipr, errCause := t.errCause, fatal := t.fatal
      session := t.session, rxfifo := t.rxfifo, acc := t.acc, waitStart := t.waitStart
      waitBound := t.waitBound, cycleStart := t.cycleStart, setVal := t.setVal, snapE := t.snapE
      snapKp := t.snapKp, snapKi := t.snapKi, snapKd := t.snapKd } := by
  obtain ⟨u, hu, hf⟩ := exec_decodeCmd_frame v s
  cases hu.symm.trans h
  exact hf

/-! ### The time base -/

theorem TurnStep.time (h : TurnStep s e t) (ht : e ≠ .tick) (hr : e ≠ .reset) : t.time = s.time := by
  cases h with
  | command _ he _ => rw [exec_decodeCmd_eq he]
  | write a v => rw [windowWrite_frame]
  | deviceSend b => rw [deviceSend_frame]
  | deviceAccept => rw [deviceAccept_frame]
  | engine he _ => rw [turn_engine_frame he]
  | tick => exact absurd rfl ht
  | reset => exact absurd rfl hr
  | hostRead _ | cksData _ | link _ => rfl

/-- Settles O48: a tick by its own step, every other event by its frame. -/
theorem onlyTicksAdvanceTime : Obligations.OnlyTicksAdvanceTime := by
  refine fun e s t h => ⟨fun he => ?_, (turn_next h).time⟩
  have htime : s.time + 1 = BitVec.ofNat 32 (s.time.toNat + 1) := by
    rw [BitVec.ofNat_add, BitVec.ofNat_toNat, BitVec.setWidth_eq]
    rfl
  subst he
  cases h
  rw [← htime]

/-! ### The operand registers -/

/-- The registers that hold an operand the host wrote (10_state.md R28, R30, R33 to R36, R40, R43). -/
def Reg.isOperand : Reg → Bool
  | .ier | .timeout | .target | .onTime | .kp | .ki | .kd | .errIn | .ecoef | .mscoef | .cyclePeriod => true
  | .id | .ctrl | .status | .cmd | .errCause | .ipr | .time | .envTemp | .bathTemp | .pidOut | .ciLo | .ciHi => false
  | .prevErr | .prevTime | .deficit | .lastOnTime | .cksDiag | .cksAcc | .cksData => false

/-- The operand registers; every other field at its reset value. -/
def operandView (s : State) : State :=
  { State.reset with
    ier := s.ier, timeout := s.timeout, target := s.target, onTime := s.onTime, kp := s.kp, ki := s.ki, kd := s.kd
    errIn := s.errIn, ecoef := s.ecoef, mscoef := s.mscoef, cyclePeriod := s.cyclePeriod }

/-- An operand register shows its own field. -/
theorem regRead_operandView {r : Reg} (hr : r.isOperand = true) (s : State) : regRead r (operandView s) = regRead r s := by
  cases r <;> first | exact absurd hr (by decide) | rfl

theorem regRead_of_operandView_eq {r : Reg} (hr : r.isOperand = true) (h : operandView t = operandView s) :
    regRead r t = regRead r s := by
  rw [← regRead_operandView hr t, h, regRead_operandView hr s]

/-- A write of a register that holds no operand (10_state.md R24 to R29, R45). -/
theorem regWrite_operandView {r : Reg} (hr : r.isOperand = false) (v : Word) (s : State) :
    operandView (regWrite r v s) = operandView s := by
  cases r
  case status => unfold regWrite; rw [writeStatus_eq]; rfl
  all_goals first | exact absurd hr (by decide) | rfl

/-- A register write leaves every other operand register (10_state.md R22). -/
theorem regRead_regWrite_of_ne {r r' : Reg} (hr : r.isOperand = true) (hne : r' ≠ r) (v : Word) (s : State) :
    regRead r (regWrite r' v s) = regRead r s := by
  cases hr' : r'.isOperand with
  | false => exact regRead_of_operandView_eq hr (regWrite_operandView hr' v s)
  | true =>
    cases r' <;> first
      | exact absurd hr' (by decide)
      | cases r <;> first | exact absurd hr (by decide) | exact absurd rfl hne | rfl

theorem regRead_windowWrite {r : Reg} (hr : r.isOperand = true) {a : BitVec 8} (ha : Reg.ofOffset a ≠ some r) (v : Word)
    (s : State) : regRead r (windowWrite a v s) = regRead r s := by
  unfold windowWrite
  cases h : Reg.ofOffset a with
  | none => rfl
  | some r' => exact regRead_regWrite_of_ne hr (fun hne => ha (by rw [h, hne])) v s

/-- Only its own write changes an operand register (10_state.md R48). -/
theorem TurnStep.operand (h : TurnStep s e t) (hr : e ≠ .reset) {r : Reg} (ho : r.isOperand = true)
    (hw : writesReg e r = false) : regRead r t = regRead r s := by
  cases h with
  | command _ he _ => exact regRead_of_operandView_eq ho (by rw [exec_decodeCmd_eq he]; rfl)
  | write a v => exact regRead_windowWrite ho (of_decide_eq_false hw) v s
  | deviceSend b => exact regRead_of_operandView_eq ho (by rw [deviceSend_frame]; rfl)
  | deviceAccept => exact regRead_of_operandView_eq ho (by rw [deviceAccept_frame]; rfl)
  | engine he _ => exact regRead_of_operandView_eq ho (by rw [turn_engine_frame he]; rfl)
  | reset => exact absurd rfl hr
  | hostRead _ | cksData _ | tick | link _ => exact regRead_of_operandView_eq ho rfl

/-- A field is its register's low bits. -/
theorem setWidth_32_inj {n : Nat} (hn : n ≤ 32) {x y : BitVec n} (h : x.setWidth 32 = y.setWidth 32) : x = y := by
  have hz := congrArg (BitVec.setWidth n) h
  simpa [BitVec.setWidth_setWidth_of_le _ hn] using hz

/-- Settles O49: each operand register by what the turns leave of its word. -/
theorem onlyHostWritesOperands : Obligations.OnlyHostWritesOperands := by
  intro e s t h hr
  have hk {r : Reg} (ho : r.isOperand = true) (hw : writesReg e r = false) := (turn_next h).operand hr ho hw
  exact ⟨hk (r := .kp) rfl, hk (r := .ki) rfl, hk (r := .kd) rfl, hk (r := .errIn) rfl, hk (r := .onTime) rfl,
    fun hw => setWidth_32_inj (by decide) (hk (r := .target) rfl hw), hk (r := .ecoef) rfl, hk (r := .mscoef) rfl,
    hk (r := .timeout) rfl, hk (r := .cyclePeriod) rfl, fun hw => setWidth_32_inj (by decide) (hk (r := .ier) rfl hw)⟩

/-! ### The temperatures -/

/-- The final acceptance commits the pending reading; every other one leaves the temperatures (42_protocol.md R97, R102). -/
theorem afterAccept_temperatures (s : State) :
    ((afterAccept s).envTemp = s.envTemp ∧ (afterAccept s).bathTemp = s.bathTemp) ∨
      (s.fsm = .txFrameAck ∧ (afterAccept s).envTemp = s.pendEnv ∧ (afterAccept s).bathTemp = s.pendBath ∧
        (afterAccept s).fresh = true) := by
  cases hf : s.fsm <;> simp only [afterAccept, hf]
  case txFrameAck =>
    rw [endLink_frame]
    unfold commitReading sessionOnFresh
    split <;> exact .inr ⟨trivial, rfl, rfl, rfl⟩
  case txFrame => split <;> exact .inl ⟨rfl, rfl⟩
  all_goals exact .inl (by trivial)

theorem deviceAccept_temperatures (s : State) :
    ((deviceAccept s).envTemp = s.envTemp ∧ (deviceAccept s).bathTemp = s.bathTemp) ∨
      (s.fsm = .txFrameAck ∧ (deviceAccept s).envTemp = s.pendEnv ∧ (deviceAccept s).bathTemp = s.pendBath ∧
        (deviceAccept s).fresh = true) := by
  unfold deviceAccept
  split
  · exact afterAccept_temperatures (sendByte _ s)
  · exact .inl ⟨rfl, rfl⟩

theorem TurnStep.temperatures (h : TurnStep s e t) (hr : e ≠ .reset) :
    (t.envTemp = s.envTemp ∧ t.bathTemp = s.bathTemp) ∨
      (e = .deviceAccept ∧ s.fsm = .txFrameAck ∧ t.envTemp = s.pendEnv ∧ t.bathTemp = s.pendBath ∧ t.fresh = true) := by
  cases h with
  | deviceAccept => exact (deviceAccept_temperatures s).imp_right fun h => ⟨rfl, h⟩
  | command _ he _ => rw [exec_decodeCmd_eq he]; exact .inl ⟨rfl, rfl⟩
  | write a v => rw [windowWrite_frame]; exact .inl ⟨rfl, rfl⟩
  | deviceSend b => rw [deviceSend_frame]; exact .inl ⟨rfl, rfl⟩
  | engine he _ => rw [turn_engine_frame he]; exact .inl ⟨rfl, rfl⟩
  | reset => exact absurd rfl hr
  | hostRead _ | cksData _ | tick | link _ => exact .inl ⟨rfl, rfl⟩

/-- Settles O50: the acceptance of the final 0x06 by its position, every other event by its frame. -/
theorem onlyCommitChangesTemperatures : Obligations.OnlyCommitChangesTemperatures :=
  fun _ _ _ h hr => (turn_next h).temperatures hr

/-! ### The PID state -/

/-- The PID state with its output and its error (10_state.md R37 to R41). -/
def pidView (s : State) : BitVec 64 × Word × Word × Word × Word := (s.ci, s.prevErr, s.prevTime, s.pidOut, s.deficit)

/-- The engine computes in EXEC only (10_state.md R38, R48). -/
theorem EngineStep.pidView (h : EngineStep s t) (hf : s.fsm ≠ .exec) : Machine.pidView t = Machine.pidView s := by
  cases h with
  | acceptReply _ => rw [acceptReply_frame]; rfl
  | denyReply _ => rw [denyReply_frame]; rfl
  | stay => rfl
  | loopStart _ _ => rw [loopStart_frame]; rfl
  | timeout => rw [timeoutStep_frame]; rfl
  | frameByte _ => rw [rxFrameStep_frame]; rfl
  | loopWait _ => rw [loopWaitStep_frame]; rfl
  | control he _ | pidCompute he _ _ | pidClear he _ _ => exact absurd he hf

theorem TurnStep.pidView (h : TurnStep s e t) (hr : e ≠ .reset) (hx : ¬ (e = .engine ∧ s.fsm = .exec)) :
    Machine.pidView t = Machine.pidView s := by
  cases h with
  | command _ he _ => rw [exec_decodeCmd_eq he]; rfl
  | write a v => rw [windowWrite_frame]; rfl
  | deviceSend b => rw [deviceSend_frame]; rfl
  | deviceAccept => rw [deviceAccept_frame]; rfl
  | engine _ he => exact he.pidView fun hf => hx ⟨rfl, hf⟩
  | reset => exact absurd rfl hr
  | hostRead _ | cksData _ | tick | link _ => rfl

/-- Settles O51: the engine outside EXEC by its step, every other event by its frame. -/
theorem onlyExecChangesIntegral : Obligations.OnlyExecChangesIntegral := by
  intro e s t h hr hx
  simpa only [pidView, Prod.mk.injEq] using (turn_next h).pidView hr hx

end

end Sys2Proof.Machine
end

section
/-! PROOFS. The register window: the words the host reads, field by field, and the writes (10_state.md R22 to R47). -/

namespace Sys2Proof.Machine

/-- A field of a word by its bits. -/
theorem extractLsb'_eq_of_getLsbD {w n : Nat} {v : BitVec w} {lo : Nat} {x : BitVec n}
    (h : ∀ i < n, v.getLsbD (lo + i) = x.getLsbD i) : v.extractLsb' lo n = x := by
  apply BitVec.eq_of_getLsbD_eq
  intro i hi
  simpa [hi] using h i hi

/-! ### The fields of STATUS (10_state.md R18, R20, R21, R25) -/

theorem statusWord_session (s : State) : (statusWord s).extractLsb' 1 2 = s.session.code :=
  extractLsb'_eq_of_getLsbD fun i hi => by rw [statusWord_getLsbD]; interval_cases i <;> rfl

theorem statusWord_fsm (s : State) : (statusWord s).extractLsb' 12 4 = s.fsm.code :=
  extractLsb'_eq_of_getLsbD fun i hi => by rw [statusWord_getLsbD]; interval_cases i <;> rfl

theorem statusWord_rxCount (s : State) : (statusWord s).extractLsb' 16 8 = rxCount s :=
  extractLsb'_eq_of_getLsbD fun i hi => by rw [statusWord_getLsbD]; interval_cases i <;> rfl

theorem statusWord_reserved_low (s : State) : (statusWord s).extractLsb' 9 3 = 0 :=
  extractLsb'_eq_of_getLsbD fun i hi => by rw [statusWord_getLsbD]; interval_cases i <;> rfl

theorem statusWord_reserved_high (s : State) : (statusWord s).extractLsb' 24 8 = 0 :=
  extractLsb'_eq_of_getLsbD fun i hi => by rw [statusWord_getLsbD]; interval_cases i <;> rfl

/-- `BUSY` (10_state.md R20). -/
theorem busy_iff (s : State) : busy s = true ↔ s.fsm ≠ .idle ∧ s.fsm ≠ .loopWait := by
  cases hf : s.fsm <;> simp [busy, hf]

/-- `TARGET_REACHED` (10_state.md R20). -/
theorem targetReached_iff (s : State) : targetReached s = true ↔ s.fresh = true ∧ s.target.toNat ≤ s.bathTemp.toNat := by
  simp [targetReached, zext]

/-- `RX_COUNT` saturates at 255 (10_state.md R25). -/
theorem rxCount_toNat (s : State) : (rxCount s).toNat = min s.rxfifo.length 255 := by
  rw [rxCount, BitVec.toNat_ofNat]
  omega

/-- A vector is not 0 where one of its bits is 1. -/
theorem ne_zero_iff_getLsbD {n : Nat} (x : BitVec n) : x ≠ 0 ↔ ∃ i < n, x.getLsbD i = true := by
  constructor
  · intro h
    by_contra hc
    push Not at hc
    exact h (BitVec.eq_of_getLsbD_eq fun i hi => by simpa using hc i hi)
  · rintro ⟨i, -, hb⟩ rfl
    simp at hb

/-- `irq` is the OR of the enabled causes (60_exceptions.md R134). -/
theorem irq_iff (s : State) : irq s = true ↔ ∃ i, i < 5 ∧ s.ipr.getLsbD i = true ∧ s.ier.getLsbD i = true := by
  simp only [irq, decide_eq_true_eq, ne_zero_iff_getLsbD, BitVec.getLsbD_and, Bool.and_eq_true]

/-- Settles O45: each field by the bits of the word. -/
theorem statusFieldsAndIrq : Obligations.StatusFieldsAndIrq := by
  intro s
  refine ⟨?_, ?_, statusWord_getLsbD s 3, ?_, statusWord_getLsbD s 5, statusWord_getLsbD s 6, statusWord_getLsbD s 7,
    statusWord_getLsbD s 8, statusWord_reserved_low s, ?_, ?_, statusWord_reserved_high s, irq_iff s⟩
  · rw [statusWord_getLsbD]; exact busy_iff s
  · rw [statusWord_session]; cases s.session <;> rfl
  · rw [statusWord_getLsbD]; exact targetReached_iff s
  · rw [statusWord_fsm]; cases s.fsm <;> rfl
  · rw [statusWord_rxCount, rxCount_toNat]

/-! ### The fields of CTRL, ERR_CAUSE and CKS_DIAG (10_state.md R24, R27, R44) -/

theorem ctrlWord_reserved (s : State) : (ctrlWord s).extractLsb' 4 28 = 0 :=
  extractLsb'_eq_of_getLsbD fun i hi => by rw [ctrlWord_getLsbD]; interval_cases i <;> rfl

theorem errWord_code (c : ErrCause) : (errWord c).extractLsb' 0 4 = c.code.code :=
  extractLsb'_eq_of_getLsbD fun i hi => by rw [errWord_getLsbD]; interval_cases i <;> rfl

theorem errWord_phase (c : ErrCause) : (errWord c).extractLsb' 4 3 = c.phase :=
  extractLsb'_eq_of_getLsbD fun i hi => by rw [errWord_getLsbD]; interval_cases i <;> rfl

theorem errWord_byte (c : ErrCause) : (errWord c).extractLsb' 8 8 = c.byte :=
  extractLsb'_eq_of_getLsbD fun i hi => by rw [errWord_getLsbD]; interval_cases i <;> rfl

theorem errWord_op (c : ErrCause) : (errWord c).extractLsb' 16 4 = c.op :=
  extractLsb'_eq_of_getLsbD fun i hi => by rw [errWord_getLsbD]; interval_cases i <;> rfl

theorem errWord_reserved (c : ErrCause) : (errWord c).extractLsb' 21 11 = 0 :=
  extractLsb'_eq_of_getLsbD fun i hi => by rw [errWord_getLsbD]; interval_cases i <;> rfl

theorem diagWord_computed (d : CksDiag) : (diagWord d).extractLsb' 0 8 = d.computed :=
  extractLsb'_eq_of_getLsbD fun i hi => by rw [diagWord_getLsbD]; interval_cases i <;> rfl

theorem diagWord_trailer (d : CksDiag) : (diagWord d).extractLsb' 8 8 = d.trailer :=
  extractLsb'_eq_of_getLsbD fun i hi => by rw [diagWord_getLsbD]; interval_cases i <;> rfl

theorem diagWord_reserved (d : CksDiag) : (diagWord d).extractLsb' 19 13 = 0 :=
  extractLsb'_eq_of_getLsbD fun i hi => by rw [diagWord_getLsbD]; interval_cases i <;> rfl

/-! ### Reads and writes by offset (20_memory.md R57) -/

/-- The address bits 1:0 are ignored (20_memory.md R57). -/
theorem Reg.ofOffset_and (a : BitVec 8) : Reg.ofOffset (a &&& 0xFC) = Reg.ofOffset a := by
  have h : (a &&& 0xFC).extractLsb' 2 6 = a.extractLsb' 2 6 := by
    apply BitVec.eq_of_getLsbD_eq
    intro i hi
    interval_cases i <;> simp
  unfold Reg.ofOffset
  rw [h]

/-- The offsets from 0x78 on are reserved (10_state.md R47). -/
theorem Reg.ofOffset_of_ge {a : BitVec 8} (h : 0x78 ≤ a.toNat) : Reg.ofOffset a = none := by
  have hn : 30 ≤ (a.extractLsb' 2 6).toNat := by
    have := a.isLt
    rw [BitVec.extractLsb'_toNat, Nat.shiftRight_eq_div_pow]
    omega
  unfold Reg.ofOffset
  obtain ⟨k, hk⟩ := Nat.exists_eq_add_of_le' hn
  rw [hk]
  rfl

/-- Settles O44: the word of each offset, and its fields by their bits. -/
theorem hostReadHasNoSideEffect : Obligations.HostReadHasNoSideEffect := by
  intro s
  have hw {n : Nat} (hn : n ≤ 32) (x : BitVec n) : (x.setWidth 32).toNat = x.toNat := BitVec.toNat_setWidth_of_le hn
  refine ⟨fun a => ⟨turn_hostRead a s, ?_, fun h => ?_⟩, rfl,
    ⟨ctrlWord_getLsbD s 0, ctrlWord_getLsbD s 1, ctrlWord_getLsbD s 2, ctrlWord_getLsbD s 3, ctrlWord_reserved s⟩, rfl, rfl,
    ⟨?_, errWord_phase _, errWord_getLsbD _ 7, errWord_byte _, errWord_op _, errWord_getLsbD _ 20, errWord_reserved _⟩,
    hw (by decide) _, hw (by decide) _, rfl, rfl, hw (by decide) _, hw (by decide) _, hw (by decide) _,
    rfl, rfl, rfl, rfl, rfl, rfl, rfl, rfl, rfl, rfl, rfl, rfl, rfl, rfl, rfl,
    ⟨diagWord_computed _, diagWord_trailer _, diagWord_getLsbD _ 16, diagWord_getLsbD _ 17, diagWord_getLsbD _ 18,
      diagWord_reserved _⟩, hw (by decide) _, rfl⟩
  · simp only [windowRead, Reg.ofOffset_and]
  · simp only [windowRead, Reg.ofOffset_of_ge h]
  · exact (errWord_code s.errCause).trans (by cases s.errCause.code <;> rfl)

section
variable {a : BitVec 8} (v : Word) (s : State)

/-- A write of a register that starts no instruction (20_memory.md R57). -/
theorem turn_hostWrite_of_word {r : Reg} (h : a.toNat / 4 * 4 = r.offset.toNat) (hc : r ≠ .cmd) (hd : r ≠ .cksData) :
    turn (.hostWrite a v) s = .next (regWrite r v s) := by
  have ho := Reg.ofOffset_of_word h
  rw [turn_hostWrite, if_neg (by simpa [ho] using hc), if_neg (by simpa [ho] using hd), windowWrite, ho]

/-- A write of a reserved offset (10_state.md R47). -/
theorem turn_hostWrite_of_ge (h : 0x78 ≤ a.toNat) : turn (.hostWrite a v) s = .next s := by
  have ho := Reg.ofOffset_of_ge h
  rw [turn_hostWrite, if_neg (by simp [ho]), if_neg (by simp [ho]), windowWrite, ho]

/-- The bits of `IPR` after a write (10_state.md R29). -/
theorem clearedIpr_getLsbD {i : Nat} (hi : i < 5) :
    (s.ipr &&& ~~~(v.setWidth 5)).getLsbD i = (s.ipr.getLsbD i && !v.getLsbD i) := by
  simp [hi]

end

/-- Settles O46: each register by its word offset. -/
theorem controlAndClearingWrites : Obligations.ControlAndClearingWrites := by
  refine fun a v s => ⟨fun h => ?_, fun h => ?_, fun h => ?_, fun h => ?_, fun h => ?_⟩
  · exact turn_hostWrite_of_word (r := .ctrl) v s h nofun nofun
  · rw [← writeStatus_eq]
    exact turn_hostWrite_of_word (r := .status) v s h nofun nofun
  · exact turn_hostWrite_of_word (r := .errCause) v s h nofun nofun
  · exact ⟨_, turn_hostWrite_of_word (r := .ipr) v s h nofun nofun, rfl, fun i hi => clearedIpr_getLsbD v s hi⟩
  · exact turn_hostWrite_of_word (r := .cksAcc) v s h nofun nofun

/-- The registers that ignore a write (10_state.md R23, R31, R32, R37 to R39, R41, R42, R44). -/
theorem turn_hostWrite_readOnly {a : BitVec 8} (v : Word) (s : State)
    (h : a.toNat / 4 * 4 ∈ [0x00, 0x20, 0x24, 0x28, 0x44, 0x48, 0x4C, 0x50, 0x54, 0x60, 0x64, 0x6C]) :
    turn (.hostWrite a v) s = .next s := by
  simp only [List.mem_cons, List.not_mem_nil, or_false] at h
  rcases h with h | h | h | h | h | h | h | h | h | h | h | h
  · exact turn_hostWrite_of_word (r := .id) v s h nofun nofun
  · exact turn_hostWrite_of_word (r := .time) v s h nofun nofun
  · exact turn_hostWrite_of_word (r := .envTemp) v s h nofun nofun
  · exact turn_hostWrite_of_word (r := .bathTemp) v s h nofun nofun
  · exact turn_hostWrite_of_word (r := .pidOut) v s h nofun nofun
  · exact turn_hostWrite_of_word (r := .ciLo) v s h nofun nofun
  · exact turn_hostWrite_of_word (r := .ciHi) v s h nofun nofun
  · exact turn_hostWrite_of_word (r := .prevErr) v s h nofun nofun
  · exact turn_hostWrite_of_word (r := .prevTime) v s h nofun nofun
  · exact turn_hostWrite_of_word (r := .deficit) v s h nofun nofun
  · exact turn_hostWrite_of_word (r := .lastOnTime) v s h nofun nofun
  · exact turn_hostWrite_of_word (r := .cksDiag) v s h nofun nofun

/-- Settles O47: each register by its word offset. -/
theorem registerWritesChangeOneRegister : Obligations.RegisterWritesChangeOneRegister := by
  refine fun a v s => ⟨fun h => ?_, fun h => ?_, fun h => ?_, fun h => ?_, fun h => ?_, fun h => ?_, fun h => ?_, fun h => ?_,
    fun h => ?_, fun h => ?_, fun h => ?_, fun h => h.elim (turn_hostWrite_readOnly v s) (turn_hostWrite_of_ge v s)⟩
  · exact turn_hostWrite_of_word (r := .ier) v s h nofun nofun
  · exact turn_hostWrite_of_word (r := .timeout) v s h nofun nofun
  · exact turn_hostWrite_of_word (r := .target) v s h nofun nofun
  · exact turn_hostWrite_of_word (r := .onTime) v s h nofun nofun
  · exact turn_hostWrite_of_word (r := .kp) v s h nofun nofun
  · exact turn_hostWrite_of_word (r := .ki) v s h nofun nofun
  · exact turn_hostWrite_of_word (r := .kd) v s h nofun nofun
  · exact turn_hostWrite_of_word (r := .errIn) v s h nofun nofun
  · exact turn_hostWrite_of_word (r := .ecoef) v s h nofun nofun
  · exact turn_hostWrite_of_word (r := .mscoef) v s h nofun nofun
  · exact turn_hostWrite_of_word (r := .cyclePeriod) v s h nofun nofun

end Sys2Proof.Machine
end

section
/-! PROOFS. The EXEC step of a cycle with the link up (45_control_loop.md R121). -/

namespace Sys2Proof.Machine

section
variable {s : State} {rest : List Event}

theorem controlCompute_of_not_heating (h : s.session ≠ .heating) : controlCompute s = (s, none) :=
  if_neg h

theorem controlCompute_of_no_deficit (h : s.session = .heating) (hd : deficitValue s ≤ 0) :
    controlCompute s = (deficitStep s, none) := by
  unfold controlCompute
  rw [if_pos h]
  exact if_neg (Int.not_lt.mpr hd)

/-- No on-time is commanded where the product is not positive (44_thermal.md R116). -/
theorem onTimeStep_of_nonpos {out m : Word} (h : out.toInt * m.toInt ≤ 0) : onTimeStep out m = none :=
  if_pos h

theorem onTimeStep_of_pos {out m : Word} (h : out.toInt * m.toInt > 0) : ∃ ms, onTimeStep out m = some ms := by
  unfold onTimeStep
  dsimp only
  rw [if_neg (show ¬ onTimeExact out m ≤ 0 from Int.not_le.mpr h)]
  split <;> exact ⟨_, rfl⟩

/-- A cycle's computation leaves the link as it is (45_control_loop.md R121). -/
theorem controlCompute_linkUp (s : State) : (controlCompute (sessionAtCycleStart s)).1.linkUp = s.linkUp := by
  rw [controlCompute_frame, sessionAtCycleStart_frame]

/-- A cycle that commands no on-time starts its read (45_control_loop.md R121). -/
theorem controlStep_of_none {u : State} (hl : s.linkUp = true) (h : controlCompute (sessionAtCycleStart s) = (u, none)) :
    controlStep s = startLink .read { u with loopPhase := .cycleRead } := by
  have hu := controlCompute_linkUp s
  rw [h] at hu
  rw [controlStep_of_up hl, h]
  exact seqStartLink_of_up .read (hu.trans hl)

/-- A cycle that commands an on-time starts its set (45_control_loop.md R121). -/
theorem controlStep_of_some {u : State} {ms : Word} (hl : s.linkUp = true)
    (h : controlCompute (sessionAtCycleStart s) = (u, some ms)) : controlStep s = startLink .set { u with setVal := ms } := by
  have hu := controlCompute_linkUp s
  rw [h] at hu
  rw [controlStep_of_up hl, h]
  exact seqStartLink_of_up .set (hu.trans hl)

/-! The fields that the session at a cycle's start leaves (45_control_loop.md R119). -/

@[simp] theorem sessionAtCycleStart_time (s : State) : (sessionAtCycleStart s).time = s.time := by
  rw [sessionAtCycleStart_frame]
@[simp] theorem sessionAtCycleStart_onTime (s : State) : (sessionAtCycleStart s).onTime = s.onTime := by
  rw [sessionAtCycleStart_frame]
@[simp] theorem sessionAtCycleStart_kp (s : State) : (sessionAtCycleStart s).kp = s.kp := by
  rw [sessionAtCycleStart_frame]
@[simp] theorem sessionAtCycleStart_ki (s : State) : (sessionAtCycleStart s).ki = s.ki := by
  rw [sessionAtCycleStart_frame]
@[simp] theorem sessionAtCycleStart_kd (s : State) : (sessionAtCycleStart s).kd = s.kd := by
  rw [sessionAtCycleStart_frame]
@[simp] theorem sessionAtCycleStart_errIn (s : State) : (sessionAtCycleStart s).errIn = s.errIn := by
  rw [sessionAtCycleStart_frame]
@[simp] theorem sessionAtCycleStart_pidOut (s : State) : (sessionAtCycleStart s).pidOut = s.pidOut := by
  rw [sessionAtCycleStart_frame]
@[simp] theorem sessionAtCycleStart_mscoef (s : State) : (sessionAtCycleStart s).mscoef = s.mscoef := by
  rw [sessionAtCycleStart_frame]
@[simp] theorem sessionAtCycleStart_deficit (s : State) : (sessionAtCycleStart s).deficit = s.deficit := by
  rw [sessionAtCycleStart_frame]
@[simp] theorem sessionAtCycleStart_lastOnTime (s : State) : (sessionAtCycleStart s).lastOnTime = s.lastOnTime := by
  rw [sessionAtCycleStart_frame]
@[simp] theorem sessionAtCycleStart_pidSat (s : State) : (sessionAtCycleStart s).pidSat = s.pidSat := by
  rw [sessionAtCycleStart_frame]
@[simp] theorem sessionAtCycleStart_setVal (s : State) : (sessionAtCycleStart s).setVal = s.setVal := by
  rw [sessionAtCycleStart_frame]
@[simp] theorem sessionAtCycleStart_loopPhase (s : State) : (sessionAtCycleStart s).loopPhase = s.loopPhase := by
  rw [sessionAtCycleStart_frame]
@[simp] theorem sessionAtCycleStart_wire (s : State) : (sessionAtCycleStart s).wire = s.wire := by
  rw [sessionAtCycleStart_frame]

/-- The state with another schedule (log 1). -/
def withPending (rest : List Event) (s : State) : State := { s with pending := rest }

theorem sessionAtCycleStart_withPending (s : State) :
    sessionAtCycleStart (withPending rest s) = withPending rest (sessionAtCycleStart s) := by
  unfold sessionAtCycleStart pidClear withPending
  dsimp only
  (repeat' split) <;> rfl

theorem controlCompute_withPending (s : State) :
    controlCompute (withPending rest s) = (withPending rest (controlCompute s).1, (controlCompute s).2) := by
  by_cases hs : s.session = .heating
  · rcases Int.lt_or_le 0 (deficitValue s) with hd | hd
    · rw [controlCompute_of_heating hs hd]
      exact controlCompute_of_heating (s := withPending rest s) hs hd
    · rw [controlCompute_of_no_deficit hs hd]
      exact controlCompute_of_no_deficit (s := withPending rest s) hs hd
  · rw [controlCompute_of_not_heating hs]
    exact controlCompute_of_not_heating (s := withPending rest s) hs

theorem startLink_withPending (k : LinkOp) (s : State) : startLink k (withPending rest s) = withPending rest (startLink k s) := by
  rw [startLink_eq, startLink_eq]
  rfl

/-- The EXEC step of a cycle does not depend on the schedule (45_control_loop.md R121). -/
theorem controlStep_withPending (hl : s.linkUp = true) :
    controlStep (withPending rest s) = withPending rest (controlStep s) := by
  have hc : controlCompute (sessionAtCycleStart (withPending rest s)) =
      (withPending rest (controlCompute (sessionAtCycleStart s)).1, (controlCompute (sessionAtCycleStart s)).2) := by
    rw [sessionAtCycleStart_withPending, controlCompute_withPending]
  cases h : controlCompute (sessionAtCycleStart s) with
  | mk u ot =>
    rw [h] at hc
    cases ot with
    | none =>
      rw [controlStep_of_none hl h, ← startLink_withPending]
      exact controlStep_of_none (s := withPending rest s) hl hc
    | some ms =>
      rw [controlStep_of_some hl h, ← startLink_withPending]
      exact controlStep_of_some (s := withPending rest s) hl hc

/-- A scheduled engine step in the EXEC of a cycle with the link up (45_control_loop.md R121). -/
theorem step_of_cycle (hp : s.pending = .engine :: rest) (hf : s.fsm = .exec) (ho : s.origin = .cycleCmd ∨ s.origin = .loop)
    (hl : s.linkUp = true) : step s = .next (withPending rest (controlStep s)) := by
  have hn : replyByte { s with pending := rest } = none := by simp [replyByte, hf, Fsm.replying]
  rw [step_of_pending hp, turn_engine_of_none hn, ← controlStep_withPending hl]
  rcases ho with ho | ho <;> simp only [engineStep, execStep, hf, ho, withPending]

/-- Settles O35: the computation without a PID step, and the read it starts. -/
theorem cycleWithoutDeficitOnlyReads : Obligations.CycleWithoutDeficitOnlyReads := by
  intro s rest hp hf ho hl hd
  refine ⟨_, step_of_cycle hp hf ho hl, ?_⟩
  rcases ne_or_eq (sessionAtCycleStart s).session .heating with hs | hs
  · rw [controlStep_of_none hl (controlCompute_of_not_heating hs), startLink_eq]
    exact ⟨rfl, rfl, rfl, sessionAtCycleStart_setVal s, rfl, sessionAtCycleStart_pidOut s, rfl, rfl, rfl,
      sessionAtCycleStart_wire s, fun _ => ⟨sessionAtCycleStart_deficit s, sessionAtCycleStart_pidSat s⟩,
      fun h => absurd h hs⟩
  · have hd := hd.resolve_left (not_not_intro hs)
    rw [controlStep_of_none hl (controlCompute_of_no_deficit hs hd), startLink_eq]
    exact ⟨rfl, rfl, rfl, sessionAtCycleStart_setVal s, rfl, sessionAtCycleStart_pidOut s, rfl, rfl, rfl,
      sessionAtCycleStart_wire s, fun h => absurd hs h, fun _ => ⟨rfl, congrArg (· || _) (sessionAtCycleStart_pidSat s)⟩⟩

/-- The state after the PID step of a heating cycle's deficit (45_control_loop.md R121). -/
def heated (s : State) : State :=
  pidStep (deficitValue s) (sext s.kp) (sext s.ki) (sext s.kd) (deficitStep s)

theorem controlCompute_eq_heated (h : s.session = .heating) (hd : deficitValue s > 0) :
    controlCompute s = (heated s, onTimeStep (heated s).pidOut s.mscoef) :=
  controlCompute_of_heating h hd

/-- Settles O36: the computation with its PID step, and what the sign of the product starts. -/
theorem heatingCycleActuatesOnOutput : Obligations.HeatingCycleActuatesOnOutput := by
  intro s rest hp hf ho hl hs hd
  have hc := controlCompute_eq_heated hs hd
  refine ⟨_, step_of_cycle hp hf ho hl, ?_⟩
  rw [sessionAtCycleStart_mscoef] at hc
  rw [← sessionAtCycleStart_kp s, ← sessionAtCycleStart_ki s, ← sessionAtCycleStart_kd s]
  cases hot : onTimeStep (heated (sessionAtCycleStart s)).pidOut s.mscoef with
  | none =>
    have hn : ¬ (heated (sessionAtCycleStart s)).pidOut.toInt * s.mscoef.toInt > 0 := fun h => by
      obtain ⟨ms, hms⟩ := onTimeStep_of_pos h
      cases hot.symm.trans hms
    rw [hot] at hc
    rw [controlStep_of_none hl hc, startLink_eq]
    exact ⟨rfl, hs, rfl, rfl, sessionAtCycleStart_time s, rfl, rfl, rfl, sessionAtCycleStart_onTime s,
      sessionAtCycleStart_errIn s, sessionAtCycleStart_lastOnTime s, fun _ => ⟨rfl, rfl⟩, fun h => absurd h hn⟩
  | some ms =>
    have hpos : ¬ (heated (sessionAtCycleStart s)).pidOut.toInt * s.mscoef.toInt ≤ 0 := fun h => by
      cases (onTimeStep_of_nonpos h).symm.trans hot
    rw [hot] at hc
    rw [controlStep_of_some hl hc, startLink_eq]
    exact ⟨rfl, hs, rfl, rfl, sessionAtCycleStart_time s, rfl, rfl, rfl, sessionAtCycleStart_onTime s,
      sessionAtCycleStart_errIn s, sessionAtCycleStart_lastOnTime s, fun h => absurd h hpos,
      fun _ => ⟨rfl, sessionAtCycleStart_loopPhase s, hot, onTimeStep_le hot⟩⟩

end

end Sys2Proof.Machine
end

section
/-! PROOFS. What an operation in flight does not observe (10_state.md R54, 20_memory.md R68, 41_devicelink.md R95): each step
commutes with a change of `link_up` and of the operands that the operation has already taken. -/

namespace Sys2Proof.Machine

/-- Other values for `link_up` and for the operands of the host's commands (10_state.md R54). -/
structure Unseen where
  linkUp : Bool
  onTime : Word
  errIn : Word
  kp : Word
  ki : Word
  kd : Word

def withUnseen (x : Unseen) (s : State) : State :=
  { s with linkUp := x.linkUp, onTime := x.onTime, errIn := x.errIn, kp := x.kp, ki := x.ki, kd := x.kd }

@[simp] theorem withUnseen_fsm (x : Unseen) (s : State) : (withUnseen x s).fsm = s.fsm := rfl
@[simp] theorem withUnseen_op (x : Unseen) (s : State) : (withUnseen x s).op = s.op := rfl
@[simp] theorem withUnseen_idx (x : Unseen) (s : State) : (withUnseen x s).idx = s.idx := rfl
@[simp] theorem withUnseen_origin (x : Unseen) (s : State) : (withUnseen x s).origin = s.origin := rfl
@[simp] theorem withUnseen_hostOp (x : Unseen) (s : State) : (withUnseen x s).hostOp = s.hostOp := rfl
@[simp] theorem withUnseen_rxfifo (x : Unseen) (s : State) : (withUnseen x s).rxfifo = s.rxfifo := rfl
@[simp] theorem withUnseen_acc (x : Unseen) (s : State) : (withUnseen x s).acc = s.acc := rfl
@[simp] theorem withUnseen_trailer (x : Unseen) (s : State) : (withUnseen x s).trailer = s.trailer := rfl
@[simp] theorem withUnseen_loopEn (x : Unseen) (s : State) : (withUnseen x s).loopEn = s.loopEn := rfl
@[simp] theorem offered_withUnseen (x : Unseen) (s : State) : offered (withUnseen x s) = offered s := rfl
@[simp] theorem replyByte_withUnseen (x : Unseen) (s : State) : replyByte (withUnseen x s) = replyByte s := rfl
@[simp] theorem waitOver_withUnseen (x : Unseen) (s : State) : waitOver (withUnseen x s) = waitOver s := rfl
@[simp] theorem timeoutEnabled_withUnseen (x : Unseen) (s : State) : timeoutEnabled (withUnseen x s) = timeoutEnabled s := rfl

/-- The end of a link operation starts no other: a host command's, or one that is not a cycle's set (45_control_loop.md R122). -/
def EndsUnseen (s : State) : Prop := s.origin = .host ∨ s.loopPhase ≠ .cycleSet

section
variable (x : Unseen) {s : State}

theorem raiseError_withUnseen {code : ErrCode} (hc : code.isFatal = true) (phase : BitVec 3) (byte : Byte) (given : BitVec 4)
    (s : State) : raiseError code phase byte given (withUnseen x s) = withUnseen x (raiseError code phase byte given s) := by
  rw [raiseError_of_fatal hc, raiseError_of_fatal hc]
  rfl

theorem denyReply_withUnseen (b : Byte) (s : State) : denyReply b (withUnseen x s) = withUnseen x (denyReply b s) :=
  raiseError_withUnseen x rfl _ _ _ s

theorem timeoutStep_withUnseen (s : State) : timeoutStep (withUnseen x s) = withUnseen x (timeoutStep s) := by
  unfold timeoutStep
  rw [timeoutEnabled_withUnseen]
  split
  · exact raiseError_withUnseen x rfl _ _ _ s
  · rfl

theorem loopWaitStep_withUnseen (s : State) : loopWaitStep (withUnseen x s) = withUnseen x (loopWaitStep s) := by
  unfold loopWaitStep
  rw [waitOver_withUnseen, withUnseen_loopEn]
  (repeat' split) <;> rfl

theorem deviceSend_withUnseen (b : Byte) (s : State) : deviceSend b (withUnseen x s) = withUnseen x (deviceSend b s) := by
  unfold deviceSend
  rw [withUnseen_rxfifo]
  split <;> rfl

/-! ### The end of a link operation -/

theorem sequencerContinue_withUnseen (hp : s.loopPhase ≠ .cycleSet) (r : LinkResult) :
    sequencerContinue r (withUnseen x s) = withUnseen x (sequencerContinue r s) := by
  cases h : s.loopPhase
  case initRead =>
    rw [sequencerContinue_of_initRead h, sequencerContinue_of_initRead (s := withUnseen x s) h, withUnseen_loopEn]
    split <;> rfl
  case cycleSet => exact absurd h hp
  case cycleRead =>
    rw [sequencerContinue_of_cycleRead h, sequencerContinue_of_cycleRead (s := withUnseen x s) h, withUnseen_origin]
    split <;> rfl
  case off => simp only [sequencerContinue, withUnseen, h]
  case wait => simp only [sequencerContinue, withUnseen, h]

theorem endLink_withUnseen (h : EndsUnseen s) (r : LinkResult) : endLink r (withUnseen x s) = withUnseen x (endLink r s) := by
  unfold endLink
  dsimp only
  rw [withUnseen_origin]
  split
  next => rfl
  next ho => exact sequencerContinue_withUnseen x (s := { s with op := .none, idx := 0 }) (h.resolve_left ho) r

/-! ### Frames, replies and acceptances -/

theorem commitReading_withUnseen (s : State) : commitReading (withUnseen x s) = withUnseen x (commitReading s) := by
  unfold commitReading sessionOnFresh withUnseen
  dsimp only
  split <;> rfl

theorem commitReading_endsUnseen : EndsUnseen (commitReading s) ↔ EndsUnseen s := by
  unfold commitReading sessionOnFresh
  split <;> rfl

theorem stale_withUnseen (h : EndsUnseen s) : stale (withUnseen x s) = withUnseen x (stale s) := by
  rw [stale_eq, stale_eq]
  exact endLink_withUnseen x (s := recordStale s) h .stale

theorem verifyFrame_withUnseen (h : EndsUnseen s) : verifyFrame (withUnseen x s) = withUnseen x (verifyFrame s) := by
  unfold verifyFrame
  dsimp only
  rw [withUnseen_acc, withUnseen_trailer]
  split
  · rfl
  · exact stale_withUnseen x (s := { s with cksDiag := _ }) h

/-- A byte past the trailer, where the letter of the pseudocode still stores it (42_protocol.md R100; log 12). -/
theorem rxFrameByte_of_ge (h : 64 ≤ s.idx) (b : Byte) :
    rxFrameByte b s = { s with trailer := b, collected := s.collected ++ [b], idx := s.idx + 1 } := by
  simp [rxFrameByte, show ¬ s.idx ≤ 3 by omega, show ¬ s.idx ≤ 62 by omega, show s.idx ≠ 63 by omega]

theorem rxFrameByte_withUnseen (h : EndsUnseen s) (b : Byte) :
    rxFrameByte b (withUnseen x s) = withUnseen x (rxFrameByte b s) := by
  rcases Nat.lt_trichotomy s.idx 63 with hi | hi | hi
  · rw [rxFrameByte_of_le (Nat.le_of_lt_succ hi), rxFrameByte_of_le (s := withUnseen x s) (Nat.le_of_lt_succ hi)]
    rfl
  · rw [rxFrameByte_of_eq hi, rxFrameByte_of_eq (s := withUnseen x s) hi]
    exact verifyFrame_withUnseen x (s := { s with trailer := b, collected := s.collected ++ [b], idx := 64 }) h
  · rw [rxFrameByte_of_ge hi, rxFrameByte_of_ge (s := withUnseen x s) hi]
    rfl

theorem rxFrameStep_withUnseen (hf : s.fsm = .rxFrame) (h : EndsUnseen s) :
    rxFrameStep (withUnseen x s) = withUnseen x (rxFrameStep s) := by
  cases hr : s.rxfifo with
  | nil => simp only [rxFrameStep, withUnseen_fsm, withUnseen_rxfifo, hf, hr]
  | cons b rest =>
    rw [rxFrameStep_of_cons hf hr, rxFrameStep_of_cons (s := withUnseen x s) hf hr]
    exact rxFrameByte_withUnseen x (s := { s with rxfifo := rest }) h b

theorem acceptReply_withUnseen (h : s.fsm = .rxFrameAck → EndsUnseen s) :
    acceptReply (withUnseen x s) = withUnseen x (acceptReply s) := by
  cases hf : s.fsm <;> simp only [acceptReply, withUnseen_fsm, withUnseen_op, hf]
  case rxReqAck => split <;> rfl
  case rxFrameAck => exact endLink_withUnseen x (h hf) .ok
  all_goals rfl

theorem afterAccept_withUnseen (h : s.fsm = .txFrameAck → EndsUnseen s) :
    afterAccept (withUnseen x s) = withUnseen x (afterAccept s) := by
  cases hf : s.fsm <;> simp only [afterAccept, withUnseen_fsm, withUnseen_idx, hf]
  case txFrame => split <;> rfl
  case txFrameAck =>
    rw [commitReading_withUnseen]
    exact endLink_withUnseen x (commitReading_endsUnseen.2 (h hf)) .ok
  all_goals rfl

theorem deviceAccept_withUnseen (h : s.fsm = .txFrameAck → EndsUnseen s) :
    deviceAccept (withUnseen x s) = withUnseen x (deviceAccept s) := by
  unfold deviceAccept
  rw [offered_withUnseen]
  split
  · exact afterAccept_withUnseen x (s := sendByte _ s) h
  · rfl

/-! ### The engine and the turn -/

theorem execStep_withUnseen (ho : s.origin = .host) {t : State} (h : execStep s = .next t) :
    execStep (withUnseen x s) = .next (withUnseen x t) := by
  unfold execStep at h ⊢
  rw [withUnseen_origin, withUnseen_hostOp]
  rw [ho] at h ⊢
  dsimp only at h ⊢
  split at h
  next h3 => cases h; rw [if_pos h3]; rfl
  next h3 =>
    split at h
    next h4 => cases h; rw [if_neg h3, if_pos h4]; rfl
    next => cases h

theorem engineStep_withUnseen (hidle : s.fsm ≠ .idle) (hexec : s.fsm = .exec → s.origin = .host)
    (hend : s.fsm = .rxFrame → EndsUnseen s) {t : State} (h : engineStep s = .next t) :
    engineStep (withUnseen x s) = .next (withUnseen x t) := by
  cases hf : s.fsm <;> simp only [engineStep, withUnseen_fsm, hf] at h ⊢
  case idle => exact absurd hf hidle
  case exec => exact execStep_withUnseen x (hexec hf) h
  case loopWait => cases h; rw [loopWaitStep_withUnseen]
  case rxFrame =>
    by_cases hr : s.rxfifo.isEmpty = true
    · rw [if_pos hr] at h
      cases h
      rw [← timeoutStep_withUnseen]
      exact congrArg _ (if_pos hr)
    · rw [if_neg hr] at h
      cases h
      rw [← rxFrameStep_withUnseen x hf (hend hf)]
      exact congrArg _ (if_neg hr)
  all_goals cases h; rw [timeoutStep_withUnseen]

/-- The turns that go on with an operation in flight (00_scope.md R7). -/
theorem turn_withUnseen {e : Event} {t : State} (hidle : s.fsm ≠ .idle) (hexec : s.fsm = .exec → s.origin = .host)
    (hend : s.fsm = .rxFrame ∨ s.fsm = .txFrameAck ∨ s.fsm = .rxFrameAck → EndsUnseen s)
    (he : e = .engine ∨ e = .deviceAccept ∨ (∃ b, e = .deviceSend b) ∨ e = .tick) (h : turn e s = .next t) :
    turn e (withUnseen x s) = .next (withUnseen x t) := by
  rcases he with rfl | rfl | ⟨b, rfl⟩ | rfl
  · cases hr : replyByte s with
    | none =>
      rw [turn_engine_of_none hr] at h
      rw [turn_engine_of_none (s := withUnseen x s) hr]
      exact engineStep_withUnseen x hidle hexec (fun hf => hend (.inl hf)) h
    | some b =>
      rw [turn_engine_of_reply hr] at h
      rw [turn_engine_of_reply (s := withUnseen x s) hr]
      cases h
      split
      · exact congrArg _ (acceptReply_withUnseen x (s := popRx s) fun hf => hend (.inr (.inr hf)))
      · exact congrArg _ (denyReply_withUnseen x b (popRx s))
  · rw [turn_deviceAccept] at h ⊢
    cases h
    rw [deviceAccept_withUnseen x fun hf => hend (.inr (.inl hf))]
  · cases h
    rw [turn_deviceSend, deviceSend_withUnseen]
  · cases h
    rfl

end

/-- Settles O53: both clauses by the turns that commute with such a change; in the second the operands are as they were. -/
theorem commandInFlightIgnoresLinkAndOperands : Obligations.CommandInFlightIgnoresLinkAndOperands := by
  refine ⟨fun e s t up o r p i d ho hidle he h => ?_, fun e s t up hidle hexec _ hphase he h => ?_⟩
  · exact turn_withUnseen ⟨up, o, r, p, i, d⟩ hidle (fun _ => ho) (fun _ => .inl ho) he h
  · have hend (hf : s.fsm = .rxFrame ∨ s.fsm = .txFrameAck ∨ s.fsm = .rxFrameAck) : EndsUnseen s := by
      refine .inr fun hp => ?_
      obtain ⟨h1, h2, h3⟩ := hphase hp
      rcases hf with hf | hf | hf
      · exact h1 hf
      · exact h2 hf
      · exact h3 hf
    have ht := turn_withUnseen ⟨up, s.onTime, s.errIn, s.kp, s.ki, s.kd⟩ hidle (fun hf => absurd hf hexec) hend he h
    have hw (r : Reg) (hr : r.isOperand = true) : regRead r t = regRead r s := by
      rcases he with rfl | rfl | ⟨b, rfl⟩ | rfl <;> exact (turn_next h).operand nofun hr rfl
    have hon : t.onTime = s.onTime := hw .onTime rfl
    have herr : t.errIn = s.errIn := hw .errIn rfl
    have hkp : t.kp = s.kp := hw .kp rfl
    have hki : t.ki = s.ki := hw .ki rfl
    have hkd : t.kd = s.kd := hw .kd rfl
    refine ht.trans (congrArg _ ?_)
    rw [← hon, ← herr, ← hkp, ← hki, ← hkd]
    rfl

end Sys2Proof.Machine
end

section
/-! PROOFS. The bytes of the wire: the layout of the element frame and its checksum, the frame accepted to its last byte, and what
adds to the wire trace. -/

namespace Sys2Proof.Machine

/-! ### The checksum -/

theorem foldl_cksAdd_toNat (bs : List Byte) {a : Byte} (ha : a.toNat < 255) :
    (bs.foldl cksAdd a).toNat = (a.toNat + byteSum bs) % 255 := by
  induction bs generalizing a with
  | nil => exact (Nat.mod_eq_of_lt ha).symm
  | cons b bs ih =>
    rw [List.foldl_cons, ih (cksAdd_lt a b), cksAdd_toNat, byteSum_cons, Nat.mod_add_mod, Nat.add_assoc]

/-- The running form is the sum mod 255 (40_checksum.md R82). -/
theorem cks_toNat (bs : List Byte) : (cks bs).toNat = byteSum bs % 255 := by
  rw [cks, foldl_cksAdd_toNat bs (by decide), show (0 : Byte).toNat = 0 from rfl, Nat.zero_add]

theorem cks_eq_ofNat (bs : List Byte) : cks bs = BitVec.ofNat 8 (byteSum bs % 255) :=
  BitVec.eq_of_toNat_eq (by rw [cks_toNat, BitVec.toNat_ofNat]; omega)

/-- Zero bytes do not show in the checksum (40_checksum.md R84). -/
theorem cks_append_filler (bs : List Byte) : cks (bs ++ filler) = cks bs := by
  rw [cks_eq_ofNat, cks_eq_ofNat, byteSum_append, show byteSum filler = 0 by decide, Nat.add_zero]

/-- A sequence verifies where its last byte is the checksum of those before it (40_checksum.md R83). -/
theorem verify_append_singleton (bs : List Byte) (b : Byte) : verify (bs ++ [b]) = (cks bs == b) := by
  simp [verify]

/-- Settles O26: the checksum as a sum, in which the filler does not show. -/
theorem elementFrameLayout : Obligations.ElementFrameLayout := by
  refine fun ms => ⟨?_, ?_⟩
  · have hsum : byteSum (bytes32 ms) = (ms.extractLsb' 24 8).toNat + (ms.extractLsb' 16 8).toNat +
        (ms.extractLsb' 8 8).toNat + (ms.extractLsb' 0 8).toNat := by
      simp [bytes32, Nat.add_assoc]
    rw [← hsum, ← cks_eq_ofNat]
    rfl
  · rw [elementBytes, ← List.append_assoc, verify_append_singleton, cks_append_filler, beq_self_eq_true]

/-! ### The element frame to its last byte -/

section
variable {s t : State} {e : Event}

/-- The acceptance of the last byte of an element frame (42_protocol.md R97). -/
theorem deviceAccept_of_lastByte (hf : s.fsm = .txFrame) (hi : s.idx = 63) :
    deviceAccept s = { s with
      wire := s.wire ++ [s.eframe[63]], idx := 64, fsm := .rxFrameAck, waitStart := s.time, waitBound := s.timeout } := by
  rw [deviceAccept_of_txFrame hf (by omega), afterAccept_of_txFrame (s := sendByte s.eframe[s.idx] s) hf]
  simp [sendByte, enter, hi]

/-- An element frame's instruction is the acceptance of its last byte (30_encoding.md R77; log 13). -/
theorem exec_elementFrame_of_lastByte {ms : Word} (hf : s.fsm = .txFrame) (hi : s.idx = 63)
    (he : s.eframe = elementVector ms) : exec (.elementFrame ms) s = .next (deviceAccept s) :=
  (turn_of_fetch (fetch_of_elementFrame hf hi he)).symm.trans (turn_deviceAccept s)

/-- The acceptances that are left of an element frame put its other bytes on the wire, and the reply is awaited
(42_protocol.md R97). -/
theorem run_elementBytes_last {n : Nat} (hp : s.pending = List.replicate (n + 1) Event.deviceAccept) (hf : s.fsm = .txFrame)
    (hi : s.idx + n = 63) :
    Sys2Proof.core.run (n + 1) s = .next { s with
      wire := s.wire ++ s.eframe.toList.drop s.idx, idx := 64, fsm := .rxFrameAck
      waitStart := s.time, waitBound := s.timeout, pending := [] } := by
  have hbytes := run_elementBytes n (hp.trans List.replicate_succ') hf (by omega)
  have hdrop : (s.eframe.toList.drop s.idx).take n ++ [s.eframe[63]] = s.eframe.toList.drop s.idx := by
    have hlast : (s.eframe.toList.drop s.idx)[n]'(by simp; omega) = s.eframe[63] := by simp [hi]
    rw [← hlast, List.take_append_getElem, List.take_of_length_le (by simp; omega)]
  refine (run_add 1 hbytes).trans ((run_one _).trans ((step_of_pending rfl).trans
    ((turn_deviceAccept _).trans (congrArg Host.Outcome.next ?_))))
  refine (deviceAccept_of_lastByte ?_ ?_).trans ?_
  · exact hf
  · exact hi
  · simp [hdrop]

/-! ### What adds to the wire -/

theorem afterAccept_wire (s : State) : (afterAccept s).wire = s.wire := by
  cases hf : s.fsm <;> simp only [afterAccept, hf]
  case txFrameAck =>
    rw [endLink_frame]
    unfold commitReading sessionOnFresh
    split <;> rfl
  case txFrame => split <;> rfl
  all_goals rfl

/-- An acceptance adds the byte on offer (41_devicelink.md R89). -/
theorem deviceAccept_wire (s : State) : (deviceAccept s).wire = s.wire ++ (offered s).toList := by
  unfold deviceAccept
  cases offered s with
  | none => exact (List.append_nil _).symm
  | some b => exact afterAccept_wire (sendByte b s)

theorem TurnStep.wire (h : TurnStep s e t) (hne : e ≠ .deviceAccept) : t.wire = s.wire := by
  cases h with
  | command _ he _ => rw [exec_decodeCmd_eq he]
  | write a v => rw [windowWrite_frame]
  | deviceSend b => rw [deviceSend_frame]
  | deviceAccept => exact absurd rfl hne
  | engine he _ => rw [turn_engine_frame he]
  | hostRead _ | cksData _ | tick | link _ | reset => rfl

/-- The control bytes on offer (42_protocol.md R97, R105). -/
theorem offered_control {b : Byte} (hf : s.fsm ≠ .txFrame) (h : offered s = some b) :
    b = 0x05 ∨ b = 0x11 ∨ b = 0x12 ∨ b = 0x06 := by
  unfold offered at h
  cases hs : s.fsm <;> simp only [hs] at h
  case txEnq => cases h; exact .inl rfl
  case txReq => split at h <;> cases h <;> simp
  case txFrameAck => cases h; simp
  case txFrame => exact absurd hs hf
  all_goals cases h

end

/-- Settles O25: the last acceptance, and the run of a whole frame. -/
theorem elementFrameIsSentWhole : Obligations.ElementFrameIsSentWhole := by
  refine fun ms s hf he => ⟨fun hi => ?_, fun hi hp => ?_⟩
  · have hlast : s.eframe[63] = cks (bytes32 ms) := by rw [he]; rfl
    rw [exec_elementFrame_of_lastByte hf hi he, deviceAccept_of_lastByte hf hi, hlast]
  · rw [run_elementBytes_last (s := { s with pending := List.replicate 64 Event.deviceAccept }) rfl hf
      (by rw [hi])]
    simp [hi, he, hp]

/-- Settles O52: an acceptance adds the byte on offer, every other event by its frame, and a frame by the run of its bytes. -/
theorem wireGrowsOnlyByOfferedBytes : Obligations.WireGrowsOnlyByOfferedBytes := by
  refine ⟨fun e s t h he => (turn_next h).wire he, fun s t h => ?_, fun s b hf h => offered_control hf h,
    fun n s hf hi hp => ?_⟩
  · cases (turn_deviceAccept s).symm.trans h
    exact deviceAccept_wire s
  · cases n with
    | zero => exact ⟨_, rfl, (List.append_nil _).symm⟩
    | succ n =>
      by_cases hlast : s.idx + n = 63
      · refine ⟨_, run_elementBytes_last (s := { s with pending := _ }) rfl hf hlast, ?_⟩
        rw [List.take_of_length_le (by simp; omega)]
      · exact ⟨_, run_elementBytes (s := { s with pending := _ }) (n + 1) (List.append_nil _).symm hf
          (by dsimp only; omega), rfl⟩

end Sys2Proof.Machine
end

section
/-! PROOFS. The encoding (30_encoding.md R71 to R80), channel by channel: the decoder reads each encoding back, what it accepts
is an encoding, and a placed instruction is fetched. -/

namespace Sys2Proof.Machine

/-- The decoder reads a command back from its word (30_encoding.md R72). -/
theorem decodeCmd_of_encode {i : Instr} {v : Word} (h : encode i = (.cmd, .word v)) : decodeCmd v = i := by
  unfold decodeCmd
  cases i <;> cases h
  all_goals
    rw [cmdWord_op, cmdWord_ign]
    rfl

/-- The catch-all reply row stands for the bytes without a row of their own (30_encoding.md R75, R79). -/
theorem wellFormed_rxOtherReply_iff {b : Byte} : WellFormed (.rxOtherReply b) ↔ b ≠ 0x06 ∧ b ≠ 0x15 ∧ b ≠ 0x18 := by
  simp only [WellFormed, Instr.wf, Bool.and_eq_true, bne_iff_ne, and_assoc]

theorem decodeReply_of_wf {b : Byte} (h : WellFormed (.rxOtherReply b)) : decodeReply b = .rxOtherReply b := by
  obtain ⟨h06, h15, h18⟩ := wellFormed_rxOtherReply_iff.1 h
  rw [decodeReply, if_neg h06, if_neg h15, if_neg h18]

/-- Settles O1: by the row; a frame and a reply by their well-formedness, a command by its two fields. -/
theorem decodeReadsEveryEncoding : Obligations.DecodeReadsEveryEncoding := by
  intro i hi
  cases i
  case txReady | txTempRequest | txSetRequest | txAccept | rxAccept | rxDeny | estopReserved => rfl
  case rxOtherReply b => exact congrArg Except.ok (decodeReply_of_wf hi)
  case tempFrame env bath unused trailer => exact decodeTempFrame_tempBytes env bath (beq_iff_eq.1 hi) trailer
  case elementFrame ms => exact decodeElementFrame_elementBytes ms
  case cksDataWrite byte ign => simp only [encode, decode, cksWord_byte, cksWord_ign]
  all_goals exact congrArg Except.ok (decodeCmd_of_encode rfl)

/-- Every word is the encoding of the command it decodes to (30_encoding.md R72, R79). -/
theorem encode_decodeCmd (v : Word) : WellFormed (decodeCmd v) ∧ encode (decodeCmd v) = (.cmd, .word v) := by
  have hv := cmdWord_eta v
  unfold decodeCmd
  rcases bitVec4_cases (v.extractLsb' 0 4) with h | h | h | h | h | h | h | h | h | h | h | h | h | h | h | h <;> rw [h] at hv ⊢
  all_goals exact ⟨rfl, congrArg (fun w => (Channel.cmd, Raw.word w)) hv⟩

/-- Every byte is the encoding of the reply it decodes to (30_encoding.md R75). -/
theorem encode_decodeReply (b : Byte) : WellFormed (decodeReply b) ∧ encode (decodeReply b) = (.rxReply, .bytes [b]) := by
  unfold decodeReply
  split_ifs with h06 h15 h18
  · exact ⟨rfl, by rw [h06]; rfl⟩
  · exact ⟨rfl, by rw [h15]; rfl⟩
  · exact ⟨rfl, by rw [h18]; rfl⟩
  · exact ⟨wellFormed_rxOtherReply_iff.2 ⟨h06, h15, h18⟩, rfl⟩

/-- What `decodeTx` accepts: the four control bytes that PBSE sends (30_encoding.md R74). -/
theorem decodeTx_ok {b : Byte} {i : Instr} (h : decodeTx b = .ok i) : WellFormed i ∧ encode i = (.txControl, .bytes [b]) := by
  unfold decodeTx at h
  split_ifs at h with h05 h11 h12 h06 <;> cases h
  · exact ⟨rfl, by rw [h05]; rfl⟩
  · exact ⟨rfl, by rw [h11]; rfl⟩
  · exact ⟨rfl, by rw [h12]; rfl⟩
  · exact ⟨rfl, by rw [h06]; rfl⟩

/-- Settles O2: by the channel and what stands there. -/
theorem encodingIsWhatWasDecoded : Obligations.EncodingIsWhatWasDecoded := by
  intro ch raw i h
  unfold decode at h
  split at h
  case h_1 v => cases h; exact encode_decodeCmd v
  case h_2 v => cases h; exact ⟨rfl, congrArg (fun w => (Channel.cksData, Raw.word w)) (cksWord_eta v)⟩
  case h_3 b => exact decodeTx_ok h
  case h_4 b => cases h; exact encode_decodeReply b
  case h_5 bs =>
    obtain ⟨env, bath, unused, trailer, rfl, hu, rfl⟩ := decodeTempFrame_ok h
    exact ⟨beq_iff_eq.2 hu, rfl⟩
  case h_6 bs =>
    obtain ⟨ms, rfl, rfl⟩ := decodeElementFrame_ok h
    exact ⟨rfl, rfl⟩
  all_goals cases h

/-- Settles O3: each word is the encoding of what it stands for. -/
theorem sampleWordsDecode : Obligations.SampleWordsDecode :=
  ⟨decodeReadsEveryEncoding (.readTemps 0) rfl, decodeReadsEveryEncoding (.pidCompute 1) rfl,
    decodeReadsEveryEncoding (.reservedF 0) rfl, decodeReadsEveryEncoding .txSetRequest rfl,
    decodeReadsEveryEncoding .estopReserved rfl, decodeReadsEveryEncoding (.cksDataWrite 0xFE 1) rfl,
    decodeReadsEveryEncoding (.elementFrame 2500) rfl⟩

/-- The unit of an instruction that is placed is its encoding (30_encoding.md R80; log 15). -/
theorem fetchUnit_positionFor (i : Instr) (s : State) : fetchUnit (eventOf i) (positionFor i s) = some (encode i) := by
  cases i
  case tempFrame env bath unused trailer =>
    exact congrArg (fun bs => some (Channel.rxFrame, Raw.bytes bs)) (tempBytes_eq env bath unused trailer).symm
  all_goals rfl

/-- Settles O56: what is placed is fetched as its encoding, which the decoder reads back. -/
theorem placedInstructionRunsNext : Obligations.PlacedInstructionRunsNext := fun i s hi =>
  step_of_fetch rfl (fetch_of_unit (fetchUnit_positionFor i s) (decodeReadsEveryEncoding i hi))

end Sys2Proof.Machine
end

section
/-! PROOFS. The commands (30_encoding.md R73): what an opcode does where it is rejected, where its link is down and where it
starts. -/

namespace Sys2Proof.Machine

section
variable {s : State} {op : BitVec 4} {needsLink : Bool} {origin : Origin} {start : State → State}

/-! ### Rejection -/

/-- Rejection as one whole next state (30_encoding.md R73, 60_exceptions.md R129). -/
theorem rejectCmd_eq (op : BitVec 4) (s : State) : rejectCmd op s = { s with
    errCause := { code := .cmdRejected, phase := 0, nak := false, byte := 0, op := op, seq := false }
    ipr := s.ipr ||| iprCmderr } :=
  recordError_of_cmd (.inr rfl) 0 0 op false s

theorem acceptCmd_of_blocked (h : cmdBlocked s = true) : acceptCmd op needsLink origin start s = rejectCmd op s :=
  if_pos h

theorem reservedCmd_of_blocked (h : cmdBlocked s = true) : reservedCmd op s = rejectCmd op s :=
  if_pos h

/-- A command is blocked while `BUSY` or `LOOP_RUN` is 1 (30_encoding.md R73). -/
theorem cmdBlocked_iff : cmdBlocked s = true ↔ busy s = true ∨ s.loopRun = true :=
  Bool.or_eq_true_iff

/-- Every opcode but NOP is rejected where commands are blocked (30_encoding.md R73). -/
theorem exec_decodeCmd_of_blocked {v : Word} (hop : v.extractLsb' 0 4 ≠ 0) (hb : cmdBlocked s = true) :
    exec (decodeCmd v) s = .next (rejectCmd (v.extractLsb' 0 4) s) := by
  unfold decodeCmd
  rcases bitVec4_cases (v.extractLsb' 0 4) with h | h | h | h | h | h | h | h | h | h | h | h | h | h | h | h <;>
    rw [h] at hop ⊢
  · exact absurd rfl hop
  iterate 6 exact congrArg Host.Outcome.next (acceptCmd_of_blocked hb)
  all_goals exact congrArg Host.Outcome.next (reservedCmd_of_blocked hb)

/-! ### Acceptance -/

/-- A reserved opcode where commands are free (30_encoding.md R73, R79). -/
theorem reservedCmd_of_free (h : CmdFree s) (op : BitVec 4) : reservedCmd op s = { s with
    errCause := { code := .illegalCmd, phase := 0, nak := false, byte := 0, op := op, seq := false }
    ipr := s.ipr ||| iprCmderr } := by
  rw [reservedCmd, h.not_blocked]
  exact recordError_of_cmd (.inl rfl) 0 0 op false s

/-- An opcode that needs the link, where it is down (30_encoding.md R73, 60_exceptions.md R131). -/
theorem acceptCmd_of_linkDown (h : CmdFree s) (hl : s.linkUp = false) :
    acceptCmd op true origin start s = { s with
      errCause :=
        { code := .connectionError, phase := 0, nak := false, byte := 0, op := op, seq := decide (op = 0x5) }
      ipr := s.ipr ||| 0b00011
      fatal := true, session := .deviceError, loopEn := false, loopRun := false, loopPhase := .off } := by
  rw [acceptCmd, h.not_blocked, hl, recordError_of_fatal rfl]
  simp [hl, setIpr, iprFail, iprDone, BitVec.or_assoc]

/-- An opcode starts where commands are free and its link, if it needs one, is up (30_encoding.md R73). -/
theorem acceptCmd_of_free (h : CmdFree s) (hl : needsLink = true → s.linkUp = true) :
    acceptCmd op needsLink origin start s = start { s with hostOp := op, origin := origin } := by
  have hn : (needsLink && !s.linkUp) = false := by
    cases needsLink
    · rfl
    · rw [hl rfl]; rfl
  rw [acceptCmd, h.not_blocked, hn]
  rfl

end

/-- Settles O4: NOP's arm is the state itself. -/
theorem nopChangesNothing : Obligations.NopChangesNothing := fun _ _ => rfl

/-- Settles O5: the rejection of every opcode. -/
theorem commandWhileBusyIsRejected : Obligations.CommandWhileBusyIsRejected := fun _ s hop hb =>
  (exec_decodeCmd_of_blocked hop (cmdBlocked_iff.2 hb)).trans (congrArg _ (rejectCmd_eq _ s))

/-- Settles O6: opcode by opcode. -/
theorem reservedCommandIsIllegal : Obligations.ReservedCommandIsIllegal := by
  intro ign s h p hp
  simp only [List.mem_cons, List.not_mem_nil, or_false] at hp
  rcases hp with rfl | rfl | rfl | rfl | rfl | rfl | rfl | rfl | rfl <;>
    exact congrArg Host.Outcome.next (reservedCmd_of_free h _)

/-- Settles O7: opcode by opcode. -/
theorem linkCommandWithoutLinkFails : Obligations.LinkCommandWithoutLinkFails := by
  intro ign s h hl p hp
  simp only [List.mem_cons, List.not_mem_nil, or_false] at hp
  rcases hp with rfl | rfl | rfl <;> exact congrArg Host.Outcome.next (acceptCmd_of_linkDown h hl)

/-- Settles O8: the acceptance and `start_link`. -/
theorem linkCommandsStartHandshake : Obligations.LinkCommandsStartHandshake := fun _ _ h hl =>
  ⟨congrArg Host.Outcome.next ((acceptCmd_of_free h fun _ => hl).trans (startLink_eq .read _)),
    congrArg Host.Outcome.next ((acceptCmd_of_free h fun _ => hl).trans (startLink_eq .set _))⟩

/-- Settles O9: the acceptance, with its arm's snapshots. -/
theorem pidComputeSnapshotsOperands : Obligations.PidComputeSnapshotsOperands := fun _ _ h =>
  congrArg Host.Outcome.next (acceptCmd_of_free h nofun)

/-- Settles O10: both acceptances; CYCLE's needs the link. -/
theorem pidClearAndCycleEnterExec : Obligations.PidClearAndCycleEnterExec := fun _ _ h =>
  ⟨congrArg Host.Outcome.next (acceptCmd_of_free h nofun),
    fun hl => congrArg Host.Outcome.next (acceptCmd_of_free h fun _ => hl)⟩

/-- Settles O11: the acceptance, whose arm is the whole command. -/
theorem flushEmptiesFifo : Obligations.FlushEmptiesFifo := fun _ _ h =>
  congrArg Host.Outcome.next (acceptCmd_of_free h nofun)

end Sys2Proof.Machine
end

section
/-! PROOFS. The units received (30_encoding.md R75, R76): a reply taken from the FIFO, and the last byte of a temperature
frame. -/

namespace Sys2Proof.Machine

section
variable {s : State} {b : Byte} {rest : List Byte}

/-! ### Replies -/

/-- A waiting reply is taken out of the FIFO (41_devicelink.md R90, 42_protocol.md R97). -/
theorem takeReply_of_waiting (hf : s.fsm.replying = true) (hr : s.rxfifo = b :: rest) (react : State → State) :
    takeReply b react s = react { s with rxfifo := rest } := by
  have hb : replyByte s = some b := by rw [replyByte, if_pos hf, hr]; rfl
  rw [takeReply, if_pos hb, popRx, hr, List.tail_cons]

theorem exec_rxAccept_of_waiting (hf : s.fsm.replying = true) (hr : s.rxfifo = 0x06 :: rest) :
    exec .rxAccept s = .next (acceptReply { s with rxfifo := rest }) :=
  congrArg Host.Outcome.next (takeReply_of_waiting hf hr acceptReply)

/-! What the reply 0x06 moves the handshake on to, by its position (42_protocol.md R97). -/

theorem acceptReply_of_rxEnqAck (h : s.fsm = .rxEnqAck) : acceptReply s = enter .txReq s := by
  simp only [acceptReply, h]

theorem acceptReply_of_read (h : s.fsm = .rxReqAck) (ho : s.op = .read) :
    acceptReply s = enter .rxFrame { s with idx := 0, acc := 0, collected := [] } := by
  simp only [acceptReply, h, if_pos ho]

theorem acceptReply_of_set (h : s.fsm = .rxReqAck) (ho : s.op ≠ .read) :
    acceptReply s = enter .txFrame (buildElementFrame s) := by
  simp only [acceptReply, h, if_neg ho]

theorem acceptReply_of_rxFrameAck (h : s.fsm = .rxFrameAck) : acceptReply s = endLink .ok s := by
  simp only [acceptReply, h]

/-- The end of a host's link operation (42_protocol.md R98). -/
theorem endLink_of_host (ho : s.origin = .host) (r : LinkResult) :
    endLink r s = { s with op := .none, idx := 0, fsm := .idle, ipr := s.ipr ||| iprDone, origin := .none, hostOp := 0 } :=
  if_pos ho

/-- The phase of an error at a reply position (42_protocol.md R97). -/
theorem phase_of_replying (hf : s.fsm.replying = true) :
    s.fsm.phase = if s.fsm = .rxEnqAck then 1 else if s.fsm = .rxReqAck then 2 else 3 := by
  cases h : s.fsm <;> rw [h] at hf
  case rxEnqAck | rxReqAck | rxFrameAck => rfl
  all_goals cases hf

/-- The operation an error names where its raiser names none (60_exceptions.md R130). -/
theorem errorOp_zero (s : State) : errorOp s 0 = if s.op = .read then 1 else if s.op = .set then 2 else 0 := by
  unfold errorOp
  cases s.op <;> rfl

/-- A denial as one whole next state (42_protocol.md R97, 60_exceptions.md R130, R131). -/
theorem denyReply_of_replying (hf : s.fsm.replying = true) (b : Byte) :
    denyReply b s = { s with
      fsm := .idle, op := .none, idx := 0, origin := .none, hostOp := 0
      errCause :=
        { code := .handshakeDenied
          phase := if s.fsm = .rxEnqAck then 1 else if s.fsm = .rxReqAck then 2 else 3
          nak := decide (b = 0x15), byte := b
          op := if s.op = .read then 1 else if s.op = .set then 2 else 0
          seq := decide (s.origin ≠ .host) }
      ipr := s.ipr ||| (if s.origin = .host ∨ s.origin = .cycleCmd then 0b00011 else 0b00010)
      fatal := true, session := .deviceError, loopEn := false, loopRun := false, loopPhase := .off } := by
  rw [denyReply, raiseError_of_fatal rfl, errorOp_zero, phase_of_replying hf]
  simp only [true_and]

/-! ### The last byte of a temperature frame -/

/-- A temperature frame's instruction verifies the whole frame (42_protocol.md R100, R101; log 13). -/
theorem exec_tempFrame_of_lastByte {env bath : Half} {unused : List Byte} (hc : FrameCollected env bath unused s)
    (hr : s.rxfifo = b :: rest) :
    exec (.tempFrame env bath unused b) s = .next (verifyFrame { s with
      rxfifo := rest, trailer := b, collected := tempBytes env bath unused b, idx := 64 }) := by
  obtain ⟨hf, hi, hcol, -, -⟩ := hc
  have hdone : frameCompleted s = some (tempBytes env bath unused b) := by
    rw [frameCompleted, if_pos ⟨hf, hi⟩, hr, hcol, tempBytes_eq]
    rfl
  have hlast : rxFrameStep s = verifyFrame { s with
      rxfifo := rest, trailer := b, collected := tempBytes env bath unused b, idx := 64 } := by
    rw [rxFrameStep_of_cons hf hr, rxFrameByte_of_eq (s := { s with rxfifo := rest }) hi, tempBytes_eq, ← hcol]
  exact congrArg Host.Outcome.next ((if_pos hdone).trans hlast)

/-- The payload bytes taken are the reading (42_protocol.md R101). -/
theorem FrameCollected.reading {env bath : Half} {unused : List Byte} (hc : FrameCollected env bath unused s) :
    be16 s.pay[0] s.pay[1] = env ∧ be16 s.pay[2] s.pay[3] = bath := by
  obtain ⟨-, -, -, -, hpay⟩ := hc
  rw [hpay]
  exact ⟨be16_bytes16 env, be16_bytes16 bath⟩

/-- A frame whose trailer is its checksum leaves its reading pending (42_protocol.md R101). -/
theorem verifyFrame_of_match (h : s.acc = s.trailer) :
    verifyFrame s = { s with
      cksDiag := { computed := s.acc, trailer := s.trailer, matched := true, dir := false, valid := true }
      pendEnv := be16 s.pay[0] s.pay[1], pendBath := be16 s.pay[2] s.pay[3]
      fsm := .txFrameAck, waitStart := s.time, waitBound := s.timeout } := by
  rw [verifyFrame, if_pos h, beq_iff_eq.2 h]
  rfl

end

/-- Settles O18: the waiting reply is taken, and the position says what it moves on to. -/
theorem acceptReplyMovesOn : Obligations.AcceptReplyMovesOn := by
  intro s rest hr
  have taken {f : Fsm} {t : State} (hs : s.fsm = f) (hf : f.replying = true) (ht : acceptReply { s with rxfifo := rest } = t) :
      exec .rxAccept s = .next t := ht ▸ exec_rxAccept_of_waiting (hs ▸ hf) hr
  have ended (hs : s.fsm = .rxFrameAck) : exec .rxAccept s = .next (endLink .ok { s with rxfifo := rest }) :=
    taken hs rfl (acceptReply_of_rxFrameAck hs)
  exact ⟨fun hs => taken hs rfl (acceptReply_of_rxEnqAck hs), fun hs ho => taken hs rfl (acceptReply_of_read hs ho),
    fun hs ho => taken hs rfl (acceptReply_of_set hs ho), ended,
    fun hs ho => (ended hs).trans (congrArg _ (endLink_of_host (s := { s with rxfifo := rest }) ho .ok))⟩

/-- Settles O19: each denial takes the same reply. -/
theorem deniedReplyEndsOperation : Obligations.DeniedReplyEndsOperation := by
  intro s b rest hf hr i hi
  have hexec : exec i s = .next (takeReply b (denyReply b) s) := by
    rcases hi with ⟨rfl, rfl⟩ | ⟨rfl, rfl⟩ | rfl <;> rfl
  rw [hexec, takeReply_of_waiting hf hr, denyReply_of_replying (s := { s with rxfifo := rest }) hf]

/-- Settles O21: the whole frame is verified, and its payload bytes are the reading. -/
theorem goodTempFrameLeavesReadingPending : Obligations.GoodTempFrameLeavesReadingPending := by
  intro env bath unused rest s _ hc c hr
  obtain ⟨henv, hbath⟩ := hc.reading
  have ⟨_, _, _, (hacc : s.acc = c), _⟩ := hc
  rw [exec_tempFrame_of_lastByte hc hr, verifyFrame_of_match hacc]
  simp only [henv, hbath, hacc]
  rfl

end Sys2Proof.Machine
end

section
/-! PROOFS. The checksum unit: the checksum as a sum, which changes of the bytes it sees, and the accumulator the host drives. -/

namespace Sys2Proof.Machine

/-! ### Which changes the checksum sees -/

/-- Two sequences have one checksum where their sums agree mod 255 (40_checksum.md R82, R84). -/
theorem cks_eq_iff (bs cs : List Byte) : cks bs = cks cs ↔ byteSum bs % 255 = byteSum cs % 255 := by
  rw [← BitVec.toNat_inj, cks_toNat, cks_toNat]

theorem byteSum_perm {bs cs : List Byte} (h : bs.Perm cs) : byteSum bs = byteSum cs := (h.map BitVec.toNat).sum_nat

/-- One byte replaced shows in the checksum as it does mod 255 (40_checksum.md R84). -/
theorem cks_replace_iff (l r : List Byte) (b c : Byte) :
    cks (l ++ b :: r) = cks (l ++ c :: r) ↔ b.toNat % 255 = c.toNat % 255 := by
  simp only [cks_eq_iff, byteSum_append, byteSum_cons]
  omega

/-- The only two bytes that agree mod 255 (40_checksum.md R84). -/
theorem toNat_mod_255_eq_iff {b c : Byte} (h : b ≠ c) :
    b.toNat % 255 = c.toNat % 255 ↔ (b = 0x00 ∧ c = 0xFF) ∨ (b = 0xFF ∧ c = 0x00) := by
  bv_omega

/-! ### The host's accumulator -/

/-- `0x00` and `0xFF` leave a checksum as it is (40_checksum.md R87). -/
theorem cksAdd_blind {acc b : Byte} (ha : acc.toNat < 255) (hb : b = 0x00 ∨ b = 0xFF) : cksAdd acc b = acc := by
  rw [← BitVec.toNat_inj, cksAdd_toNat]
  rcases hb with rfl | rfl
  · exact Nat.mod_eq_of_lt ha
  · exact (Nat.add_mod_right _ 255).trans (Nat.mod_eq_of_lt ha)

/-- A write of CKS_DATA, whatever the ignored bits of its word (40_checksum.md R87). -/
theorem turn_hostWrite_cksData {a : BitVec 8} (h : a.toNat / 4 * 4 = 0x74) (byte : Byte) (ign : BitVec 24) (s : State) :
    turn (.hostWrite a (ign ++ byte)) s = .next { s with cksAcc := cksAdd s.cksAcc byte } := by
  have ho : Reg.ofOffset a = some .cksData := Reg.ofOffset_of_word h
  rw [turn_hostWrite, if_neg (by simp [ho]), if_pos ho, cksWord_byte]

/-- Settles O12: each step of the running form keeps the sum mod 255. -/
theorem checksumIsSumModulo255 : Obligations.ChecksumIsSumModulo255 := cks_toNat

/-- Settles O13: the trailer is what `verify` compares with. -/
theorem appendedChecksumVerifies : Obligations.AppendedChecksumVerifies := by
  intro bs
  rw [verify_append_singleton, beq_self_eq_true]

/-- Settles O14: the checksum sees a change of the sum mod 255 and no other. -/
theorem checksumBlindSpots : Obligations.ChecksumBlindSpots := by
  refine ⟨fun bs => Nat.le_of_lt_succ (cks_lt bs), fun l r => (cks_replace_iff l r _ _).2 rfl,
    fun l r b c h => (cks_replace_iff l r b c).trans (toNat_mod_255_eq_iff h), fun l r b hb heq => ?_,
    fun bs cs h => (cks_eq_iff bs cs).2 (congrArg (· % 255) (byteSum_perm h))⟩
  have hwrap := (toNat_mod_255_eq_iff (add_ne_left.2 (by decide))).1 ((cks_replace_iff l r _ _).1 heq)
  rcases hwrap with ⟨-, h⟩ | ⟨h, h0⟩
  · exact hb h
  · subst h0
    exact absurd h (by decide)

/-- Settles O15: the instruction's arm is the accumulator's step, and each register is found by its word offset. -/
theorem cksDataWriteAddsByte : Obligations.CksDataWriteAddsByte := fun byte ign s =>
  ⟨rfl, fun _ ha => turn_hostWrite_cksData ha byte ign s,
    fun _ ha => turn_hostWrite_of_word (r := .cksAcc) (ign ++ byte) s ha nofun nofun, cksAdd_blind⟩

end Sys2Proof.Machine
end

section
/-! PROOFS. The device link (41_devicelink.md): a wait and its bound (R94), a control byte accepted where it is offered (R89), and
the wire units that are neither offered nor awaited (log 3, 13). -/

namespace Sys2Proof.Machine

/-! ### Waits -/

section
variable {s : State} (hw : s.fsm.sending = true ∨ s.fsm.receiving = true) (hr : s.fsm.receiving = true → s.rxfifo = [])

include hw in
/-- The phase of an error in a waiting state (41_devicelink.md R94, 42_protocol.md R97). -/
theorem phase_of_waiting :
    s.fsm.phase = if s.fsm = .rxEnqAck then 1 else if s.fsm = .rxReqAck then 2 else if s.fsm = .rxFrameAck then 3
      else if s.fsm = .rxFrame then 4 else 5 := by
  cases hf : s.fsm <;> rw [hf] at hw
  case idle | exec | loopWait => rcases hw with h | h <;> cases h
  all_goals rfl

include hr in
/-- No reply is there to decode while the FIFO of a receiving state is empty (41_devicelink.md R90). -/
theorem replyByte_of_empty : replyByte s = none := by
  unfold replyByte
  split
  next hreply => rw [hr (Fsm.receiving_of_replying hreply)]; rfl
  next => rfl

include hw hr

/-- Where no byte is there, the engine's one step in a waiting state is the timeout (41_devicelink.md R94). -/
theorem turn_engine_of_waiting : turn .engine s = .next (timeoutStep s) := by
  rw [turn_engine_of_none (replyByte_of_empty hr), engineStep]
  cases hf : s.fsm
  case idle | exec | loopWait => rw [hf] at hw; rcases hw with h | h <;> cases h
  case rxFrame => rw [hr (by rw [hf]; rfl)]; rfl
  all_goals rfl

/-- Where no byte is there, a wait ends by its bound alone, and a bound of 0 is none (41_devicelink.md R94). -/
theorem timeoutEnabled_iff :
    timeoutEnabled s = true ↔ s.waitBound ≠ 0 ∧ s.waitBound.toNat ≤ (s.time - s.waitStart).toNat := by
  have hempty : (s.fsm.receiving && !s.rxfifo.isEmpty) = false := by
    cases hf : s.fsm.receiving
    · rfl
    · rw [hr hf]; rfl
  rw [timeoutEnabled, hempty, Bool.or_eq_true_iff.2 hw]
  simp only [zext, ge_iff_le, Int.ofNat_le, Bool.true_and, Bool.not_false, Bool.and_true, Bool.and_eq_true,
    decide_eq_true_iff]

theorem timeoutStep_of_reached (h0 : s.waitBound ≠ 0) (hb : s.waitBound.toNat ≤ (s.time - s.waitStart).toNat) :
    timeoutStep s = raiseError .timeout s.fsm.phase 0 0 s :=
  if_pos ((timeoutEnabled_iff hw hr).2 ⟨h0, hb⟩)

theorem timeoutStep_of_not_reached (h : s.waitBound = 0 ∨ (s.time - s.waitStart).toNat < s.waitBound.toNat) :
    timeoutStep s = s := by
  refine if_neg fun ht => ?_
  obtain ⟨h0, hb⟩ := (timeoutEnabled_iff hw hr).1 ht
  exact h.elim h0 (Nat.not_lt.2 hb)

end

/-- Settles O42: the engine's step is the timeout step, whose error is one whole next state. -/
theorem timeoutEndsWait : Obligations.TimeoutEndsWait := by
  intro s rest hp hw hr
  have hstep : step s = .next (timeoutStep { s with pending := rest }) :=
    (step_of_pending hp).trans (turn_engine_of_waiting (s := { s with pending := rest }) hw hr)
  refine ⟨fun h0 hb => hstep.trans (congrArg _ ?_),
    fun h => hstep.trans (congrArg _ (timeoutStep_of_not_reached (s := { s with pending := rest }) hw hr h))⟩
  rw [timeoutStep_of_reached (s := { s with pending := rest }) hw hr h0 hb, raiseError_of_fatal rfl, errorOp_zero,
    phase_of_waiting (s := { s with pending := rest }) hw]
  rfl

section
variable {s : State} {f : Fsm} {b : Byte}

/-! ### Control bytes -/

/-- The request on offer is that of the operation in flight (42_protocol.md R97). -/
theorem offered_of_txReq (h : s.fsm = .txReq) : offered s = some (if s.op = .read then 0x11 else 0x12) := by
  simp only [offered, h]

/-- A control byte is accepted where it is offered (41_devicelink.md R89). -/
theorem acceptControl_of_offered (hf : s.fsm = f) (ho : offered s = some b) :
    acceptControl f b s = afterAccept (sendByte b s) := by
  rw [acceptControl, if_pos ⟨hf, ho⟩, deviceAccept, ho]

/-- A control byte that is not on offer is not accepted (log 3). -/
theorem acceptControl_of_not_offered (h : s.fsm = f → offered s ≠ some b) : acceptControl f b s = s :=
  if_neg fun ⟨hf, ho⟩ => h hf ho

theorem afterAccept_of_txEnq (h : s.fsm = .txEnq) : afterAccept s = enter .rxEnqAck s := by
  simp only [afterAccept, h]

theorem afterAccept_of_txReq (h : s.fsm = .txReq) : afterAccept s = enter .rxReqAck s := by
  simp only [afterAccept, h]

/-- The request's acceptance awaits its reply (42_protocol.md R97). -/
theorem acceptControl_of_txReq (hf : s.fsm = .txReq) (hb : (if s.op = .read then 0x11 else 0x12) = b) :
    acceptControl .txReq b s = enter .rxReqAck (sendByte b s) :=
  (acceptControl_of_offered hf ((offered_of_txReq hf).trans (congrArg some hb))).trans
    (afterAccept_of_txReq (s := sendByte b s) hf)

/-! ### Units that are neither offered nor awaited -/

/-- A reply that does not wait in a reply state is not taken (log 3). -/
theorem takeReply_of_not_waiting (h : s.fsm.replying = false ∨ s.rxfifo.head? ≠ some b) (react : State → State) :
    takeReply b react s = s := by
  refine if_neg fun hb => ?_
  unfold replyByte at hb
  split at hb
  next hf => exact h.elim (Bool.eq_false_iff.1 · hf) (· hb)
  next => cases hb

/-- The element frame whose last byte is on offer (30_encoding.md R77; log 13). -/
theorem frameSent_eq_elementBytes {ms : Word} (h : frameSent s = some (elementBytes ms)) :
    s.fsm = .txFrame ∧ s.idx = 63 ∧ s.eframe = elementVector ms := by
  unfold frameSent at h
  split at h
  next hc => exact ⟨hc.1, hc.2, Vector.toList_inj.1 (Option.some.inj h)⟩
  next => cases h

/-- The temperature frame whose last byte waits (30_encoding.md R76; log 13). -/
theorem frameCompleted_eq_tempBytes {env bath : Half} {unused : List Byte} {trailer : Byte}
    (h : frameCompleted s = some (tempBytes env bath unused trailer)) :
    s.fsm = .rxFrame ∧ s.idx = 63 ∧ s.rxfifo.head? = some trailer ∧ s.collected = tempBody env bath unused := by
  obtain ⟨hf, hi, b, rest, hr, hbs⟩ := frameCompleted_some h
  rw [tempBytes_eq] at hbs
  obtain ⟨hcol, hb⟩ := List.append_inj' hbs rfl
  exact ⟨hf, hi, by rw [hr]; exact (congrArg List.head? hb).symm, hcol.symm⟩

end

/-- Settles O16: each byte is on offer in its state, and its acceptance enters the reply state. -/
theorem handshakeByteIsSent : Obligations.HandshakeByteIsSent := fun s =>
  ⟨fun hf => congrArg Host.Outcome.next ((acceptControl_of_offered hf (by rw [offered, hf])).trans
      (afterAccept_of_txEnq (s := sendByte 0x05 s) hf)),
    fun hf ho => congrArg Host.Outcome.next (acceptControl_of_txReq hf (if_pos ho)),
    fun hf ho => congrArg Host.Outcome.next (acceptControl_of_txReq hf (if_neg ho))⟩

/-- Settles O20: unit by unit, what its step would need is what the hypothesis denies. -/
theorem wireInstructionElsewhereIsIdle : Obligations.WireInstructionElsewhereIsIdle := by
  intro s
  refine ⟨fun h => ?_, fun h => ?_, fun h => ?_, fun h => ?_, fun ms h => ?_,
    fun env bath unused trailer h => ?_, fun b h => ?_⟩
  · exact congrArg Host.Outcome.next (acceptControl_of_not_offered fun hf => absurd hf h)
  · refine congrArg Host.Outcome.next (acceptControl_of_not_offered fun hf => ?_)
    rw [offered_of_txReq hf, if_neg (h.resolve_left (not_not_intro hf))]
    decide
  · refine congrArg Host.Outcome.next (acceptControl_of_not_offered fun hf => ?_)
    rw [offered_of_txReq hf, if_pos (h.resolve_left (not_not_intro hf))]
    decide
  · exact congrArg Host.Outcome.next (acceptControl_of_not_offered fun hf => absurd hf h)
  · refine congrArg Host.Outcome.next (if_neg fun hs => ?_)
    obtain ⟨hf, hi, he⟩ := frameSent_eq_elementBytes hs
    rcases h with h | h | h
    exacts [h hf, h hi, h he]
  · refine congrArg Host.Outcome.next (if_neg fun hs => ?_)
    obtain ⟨hf, hi, hr, hc⟩ := frameCompleted_eq_tempBytes hs
    rcases h with h | h | h | h
    exacts [h hf, h hi, h hr, h hc]
  · have untaken (react : State → State) := congrArg (Host.Outcome.next (φ := Fault) (ρ := Refusal))
      (takeReply_of_not_waiting h react)
    refine ⟨?_, ?_, ?_, untaken (denyReply b)⟩
    · rintro rfl; exact untaken acceptReply
    · rintro rfl; exact untaken (denyReply 0x15)
    · rintro rfl; exact untaken (denyReply 0x18)

end Sys2Proof.Machine
end

section
/-! PROOFS. The end of a link operation (42_protocol.md R98): the sequencer goes on, the reading is committed, a bad frame is stale;
and what a cycle's element frame holds. -/

namespace Sys2Proof.Machine

section
variable {s : State}

/-! ### The sequencer goes on -/

/-- The end of a link operation that no host command started (42_protocol.md R98). -/
theorem endLink_of_ne_host (ho : s.origin ≠ .host) (r : LinkResult) :
    endLink r s = sequencerContinue r { s with op := .none, idx := 0 } :=
  if_neg ho

/-- The loop's first read is over (45_control_loop.md R122). -/
theorem endLink_of_initRead (ho : s.origin ≠ .host) (hp : s.loopPhase = .initRead) (r : LinkResult) :
    endLink r s = if s.loopEn then beginCycle { s with op := .none, idx := 0 } else loopStop { s with op := .none, idx := 0 } :=
  (endLink_of_ne_host ho r).trans (sequencerContinue_of_initRead (s := { s with op := .none, idx := 0 }) hp r)

/-- A cycle's set is over: its read follows (45_control_loop.md R122). -/
theorem endLink_of_cycleSet (ho : s.origin ≠ .host) (hp : s.loopPhase = .cycleSet) (r : LinkResult) :
    endLink r s = seqStartLink .read { s with op := .none, idx := 0, loopPhase := .cycleRead } :=
  (endLink_of_ne_host ho r).trans (sequencerContinue_of_cycleSet (s := { s with op := .none, idx := 0 }) hp r)

/-- A cycle's read is over, and the cycle with it (45_control_loop.md R122). -/
theorem endLink_of_cycleRead (ho : s.origin ≠ .host) (hp : s.loopPhase = .cycleRead) (r : LinkResult) :
    endLink r s =
      if s.origin = .cycleCmd then endHost { setIpr iprCycle s with op := .none, idx := 0, loopPhase := .off }
      else { setIpr iprCycle s with op := .none, idx := 0, loopPhase := .wait, fsm := .loopWait } :=
  (endLink_of_ne_host ho r).trans (sequencerContinue_of_cycleRead (s := { s with op := .none, idx := 0 }) hp r)

/-- A start of the sequencer fails where the link is down and no link operation is in flight (45_control_loop.md R121,
60_exceptions.md R130, R131). -/
theorem seqStartLink_read_of_down (hl : s.linkUp = false) (hop : s.op = .none) (ho : s.origin ≠ .host) :
    seqStartLink .read s = { s with
      fsm := .idle, op := .none, idx := 0, origin := .none, hostOp := 0
      errCause := { code := .connectionError, phase := 0, nak := false, byte := 0, op := 1, seq := true }
      ipr := s.ipr ||| (if s.origin = .cycleCmd then 0b00011 else 0b00010)
      fatal := true, session := .deviceError, loopEn := false, loopRun := false, loopPhase := .off } := by
  rw [seqStartLink_of_down .read hl, raiseError_of_fatal rfl]
  simp [ho, errorOp, hop]

/-! ### The reading is committed -/

/-- A fresh reading takes the session out of DeviceError where no fatal error pins it (45_control_loop.md R119). -/
theorem commitReading_eq (s : State) :
    commitReading s = { s with
      envTemp := s.pendEnv, bathTemp := s.pendBath, fresh := true
      session :=
        if s.session = .deviceError ∧ s.fatal = false then (if s.start then .heating else .idle) else s.session } := by
  by_cases h : s.session = .deviceError ∧ s.fatal = false
  · rw [if_pos h]; exact if_pos ⟨h.1, Bool.eq_false_iff.1 h.2⟩
  · rw [if_neg h]; exact if_neg (h ∘ And.imp_right Bool.eq_false_iff.2)

theorem afterAccept_of_txFrameAck (h : s.fsm = .txFrameAck) : afterAccept s = endLink .ok (commitReading s) := by
  simp only [afterAccept, h]

/-! ### A bad frame is stale -/

/-- A stale frame is recorded as a mismatch that is not fatal (42_protocol.md R103, 60_exceptions.md R129). -/
theorem recordStale_eq (s : State) :
    recordStale s = { s with
      fresh := false, session := .deviceError
      errCause :=
        { code := .checksumMismatch, phase := 4, nak := false, byte := s.trailer, op := 1, seq := decide (s.origin ≠ .host) }
      ipr := s.ipr ||| iprStale } :=
  rfl

/-- A frame whose trailer is not its checksum is stale (42_protocol.md R101). -/
theorem verifyFrame_of_mismatch {c : Byte} (hc : s.acc = c) (h : c ≠ s.trailer) :
    verifyFrame s = endLink .stale (recordStale { s with
      cksDiag := { computed := c, trailer := s.trailer, matched := false, dir := false, valid := true } }) := by
  subst hc
  rw [verifyFrame, if_neg h, beq_eq_false_iff_ne.2 h, stale_eq]

/-! ### An element frame in flight -/

/-- An element frame that no host command started carries an on-time within the clamp (45_control_loop.md R125). -/
theorem Inv.clamped_of_txFrame (h : Inv s) (hf : s.fsm = .txFrame) (ho : s.origin ≠ .host) :
    s.setVal.toNat ≤ Config.clampMax := by
  obtain ⟨-, hop, -⟩ : linkOwned s ∧ s.op = .set ∧ s.idx < 64 := by simpa only [contextOk, hf] using h.context
  exact h.clamped hop ho

end

/-- Settles O39: phase by phase, what the sequencer starts or ends. -/
theorem sequencerContinues : Obligations.SequencerContinues := by
  intro s r ho
  refine ⟨fun hp he => ?_, fun hp he => ?_, fun hp hl => ?_, fun hp hl => ?_, fun hp hc => ?_, fun hp hc => ?_⟩
  · rw [endLink_of_initRead ho hp, if_pos he]; rfl
  · rw [endLink_of_initRead ho hp, if_neg (Bool.eq_false_iff.1 he)]; rfl
  · rw [endLink_of_cycleSet ho hp, seqStartLink_of_up .read (by exact hl), startLink_eq]
  · rw [endLink_of_cycleSet ho hp, seqStartLink_read_of_down (by exact hl) rfl (by exact ho)]
  · have hipr : s.ipr ||| iprCycle ||| iprDone = s.ipr ||| 0b10001 := BitVec.or_assoc ..
    rw [endLink_of_cycleRead ho hp, if_pos hc, ← hipr]; rfl
  · rw [endLink_of_cycleRead ho hp, if_neg hc]; rfl

/-- Settles O17: the byte on offer is accepted, and the committed reading is one whole next state. -/
theorem finalAcceptCommitsReading : Obligations.FinalAcceptCommitsReading := by
  intro s hf
  have hexec : exec .txAccept s = .next (endLink .ok (commitReading (sendByte 0x06 s))) :=
    congrArg Host.Outcome.next ((acceptControl_of_offered hf (by rw [offered, hf])).trans
      (afterAccept_of_txFrameAck (s := sendByte 0x06 s) hf))
  rw [commitReading_eq] at hexec
  refine ⟨hexec, fun ho => ?_⟩
  rw [hexec, endLink_of_host (by exact ho)]
  rfl

/-- Settles O22: the whole frame is verified, and its trailer is not the checksum taken. -/
theorem badTempFrameIsStale : Obligations.BadTempFrameIsStale := by
  intro env bath unused rest trailer s _ hc hr ht
  have ⟨_, _, _, (hacc : s.acc = cks (bytes16 env ++ (bytes16 bath ++ unused))), _⟩ := hc
  have hexec := exec_tempFrame_of_lastByte hc hr
  rw [verifyFrame_of_mismatch (by exact hacc) (by exact ht.symm), recordStale_eq] at hexec
  have hipr : s.ipr ||| iprStale ||| iprDone = s.ipr ||| 0b00101 := BitVec.or_assoc ..
  refine ⟨_, rfl, hexec, fun ho => ?_⟩
  rw [← hipr, hexec, endLink_of_host (by exact ho)]
  rfl

/-- Settles O60: the step keeps the invariant, which ties the frame sent to a clamped `set_val`. -/
theorem sequencerFramesAreClamped : Obligations.SequencerFramesAreClamped := by
  intro s t hs hst hf ho
  have ht : Inv t := stepKeepsInvariant s t hs hst
  obtain ⟨he, hl⟩ := ht.frameSent (.inl hf)
  exact ⟨t.setVal, ht.clamped_of_txFrame hf ho, by rw [he, elementVector_toList], hl⟩

end Sys2Proof.Machine
end

section
/-! PROOFS. The PID engine (43_pid.md): the EXEC step of PID_COMPUTE and PID_CLEAR (R106, R108, R109), the ranges of the
intermediates (R107), and the pure proportional controller (R111). -/

namespace Sys2Proof.Machine

/-! ### The EXEC step of a host command -/

section
variable {s : State} {rest : List Event}

/-- A scheduled engine step in EXEC, whoever owns it: no reply is awaited there (42_protocol.md R97). -/
theorem step_of_exec (hp : s.pending = .engine :: rest) (hf : s.fsm = .exec) : step s = execStep { s with pending := rest } := by
  have hn : replyByte { s with pending := rest } = none := by simp [replyByte, hf, Fsm.replying]
  rw [step_of_pending hp, turn_engine_of_none hn]
  simp only [engineStep, hf]

theorem execStep_of_pidCompute (ho : s.origin = .host) (hop : s.hostOp = 0x3) :
    execStep s = .next (endHost (pidStep s.snapE s.snapKp s.snapKi s.snapKd s)) := by
  simp only [execStep, ho, if_pos hop]

theorem execStep_of_pidClear (ho : s.origin = .host) (hop : s.hostOp = 0x4) : execStep s = .next (endHost (pidClear s)) := by
  simp only [execStep, ho]
  rw [if_neg (by rw [hop]; decide), if_pos hop]

end

/-! ### The six steps as arithmetic -/

theorem pidCi_eq (e : Int) (s : State) : pidCi e s = max (-2 ^ 63) (min (2 ^ 63 - 1) (pidCiSum e s)) :=
  satN_eq 64 _

theorem pidQ_eq (e kp ki kd : Int) (s : State) : pidQ e kp ki kd s = pidSum e kp ki kd s / 2 ^ 32 :=
  floorDiv_eq _ (by norm_num)

/-- Settles O28: the EXEC step of opcode 0x3 is the PID step, whose saturations are clamps and whose quotient is Euclidean. -/
theorem pidComputeFollowsSixSteps : Obligations.PidComputeFollowsSixSteps := by
  intro s rest hp hf ho hop
  rw [step_of_exec hp hf, execStep_of_pidCompute (by exact ho) (by exact hop), pidStep, satN_eq 32, pidQ_eq, pidSum, pidCi_eq]
  rfl

/-- Settles O29: the EXEC step of opcode 0x4, whose effect is `pid_clear()`. -/
theorem pidClearClearsRunningState : Obligations.PidClearClearsRunningState := by
  intro s rest hp hf ho hop
  rw [step_of_exec hp hf, execStep_of_pidClear (by exact ho) (by exact hop)]
  rfl

/-! ### The pure proportional controller -/

theorem satN_of_inS32 {v : Int} (h : inS32 v) : satN 32 v = v := by
  unfold inS32 at h
  rw [satN_eq]
  omega

/-- With the gains 1, 0 and 0 at scale 2^-16 the quotient of step 5 is exact (43_pid.md R106). -/
theorem pidQ_of_unit_gain (e : Int) (s : State) : pidQ e 65536 0 0 s = e := by
  rw [pidQ_eq, pidSum]
  omega

theorem pidStep_pidOut_of_unit_gain (e : Word) (s : State) : (pidStep e.toInt 65536 0 0 s).pidOut = e := by
  calc (pidStep e.toInt 65536 0 0 s).pidOut
    _ = BitVec.ofInt 32 (satN 32 (pidQ e.toInt 65536 0 0 s)) := rfl
    _ = BitVec.ofInt 32 e.toInt := by rw [pidQ_of_unit_gain, satN_of_inS32 (v := e.toInt) (inS32_sext e)]
    _ = e := BitVec.ofInt_toInt

/-- Settles O30: each call, from whatever state the last one left, by the same lemma. -/
theorem pureProportionalPidReturnsError : Obligations.PureProportionalPidReturnsError := fun _ e _ =>
  ⟨pidStep_pidOut_of_unit_gain e _, pidStep_pidOut_of_unit_gain e _⟩

/-! ### The ranges of the intermediates -/

/-- The product of two signed ranges; the upper bound is met where both factors are at their least (43_pid.md R107). -/
theorem mul_mem_of_signed {a b m n : Int} (ha : -m ≤ a ∧ a < m) (hb : -n ≤ b ∧ b < n) : -(m * n) < a * b ∧ a * b ≤ m * n := by
  obtain ⟨ha₁, ha₂⟩ := ha
  obtain ⟨hb₁, hb₂⟩ := hb
  constructor
  · have h₁ : 0 < (m - a) * (n - b) := mul_pos (by omega) (by omega)
    have h₂ : 0 ≤ (m + a) * (n + b) := mul_nonneg (by omega) (by omega)
    linarith
  · have h₁ : 0 ≤ (m - a) * (n + b) := mul_nonneg (by omega) (by omega)
    have h₂ : 0 ≤ (m + a) * (n - b) := mul_nonneg (by omega) (by omega)
    linarith

theorem mul_mem_of_abs_le {a b m n : Int} (ha : |a| ≤ m) (hb : |b| ≤ n) : -(m * n) ≤ a * b ∧ a * b ≤ m * n :=
  abs_le.1 (abs_mul a b ▸ mul_le_mul ha hb (abs_nonneg b) ((abs_nonneg a).trans ha))

theorem abs_le_of_inS32 {v : Int} (h : inS32 v) : |v| ≤ 2 ^ 31 :=
  abs_le.2 ⟨h.1, h.2.le⟩

section
variable {e kp ki kd : Int}

theorem pidDt_mem (s : State) : 0 ≤ pidDt s ∧ pidDt s < 2 ^ 32 :=
  ⟨Int.natCast_nonneg _, Int.ofNat_lt.2 (s.time - s.prevTime).isLt⟩

theorem pidDe_mem (he : inS32 e) (s : State) : -2 ^ 32 < pidDe e s ∧ pidDe e s < 2 ^ 32 := by
  have hp := inS32_sext s.prevErr
  unfold inS32 at he hp
  unfold pidDe
  omega

theorem mul_pidDt_mem (he : inS32 e) (s : State) : -2 ^ 63 ≤ e * pidDt s ∧ e * pidDt s < 2 ^ 63 := by
  have hdt : |pidDt s| ≤ 2 ^ 32 - 1 := by
    have h := pidDt_mem s
    rw [abs_of_nonneg h.1]
    omega
  have h := mul_mem_of_abs_le (abs_le_of_inS32 he) hdt
  omega

theorem pidCiSum_mem (he : inS32 e) (s : State) : -2 ^ 64 ≤ pidCiSum e s ∧ pidCiSum e s < 2 ^ 64 := by
  have h := mul_pidDt_mem he s
  have h₁ : -2 ^ 63 ≤ sext s.ci := BitVec.le_toInt s.ci
  have h₂ : sext s.ci < 2 ^ 63 := BitVec.toInt_lt
  unfold pidCiSum
  omega

theorem pidCi_mem (e : Int) (s : State) : -2 ^ 63 ≤ pidCi e s ∧ pidCi e s < 2 ^ 63 := by
  rw [pidCi_eq]
  omega

/-- A quotient is at most its numerator in absolute value, whatever `dt` is. -/
theorem abs_pidD_le (he : inS32 e) (s : State) : |pidD e s| ≤ 2 ^ 48 - 2 ^ 16 := by
  unfold pidD
  split
  · have hq := Int.natAbs_tdiv_le_natAbs (pidDe e s * 2 ^ 16) (pidDt s)
    have hde := pidDe_mem he s
    rw [truncDiv, Int.abs_eq_natAbs]
    omega
  · norm_num

theorem proportional_mem (hp : inS32 kp) (he : inS32 e) : -2 ^ 78 < kp * e * 2 ^ 16 ∧ kp * e * 2 ^ 16 ≤ 2 ^ 78 := by
  have h := mul_mem_of_signed hp he
  omega

theorem integral_mem (hi : inS32 ki) (e : Int) (s : State) : -2 ^ 94 < ki * pidCi e s ∧ ki * pidCi e s ≤ 2 ^ 94 := by
  have h := mul_mem_of_signed hi (pidCi_mem e s)
  omega

theorem derivative_mem (hd : inS32 kd) (he : inS32 e) (s : State) :
    -2 ^ 95 ≤ kd * pidD e s * 2 ^ 16 ∧ kd * pidD e s * 2 ^ 16 < 2 ^ 95 := by
  have h := mul_mem_of_abs_le (abs_le_of_inS32 hd) (abs_pidD_le he s)
  omega

theorem pidSum_mem (he : inS32 e) (hp : inS32 kp) (hi : inS32 ki) (hd : inS32 kd) (s : State) :
    -2 ^ 97 ≤ pidSum e kp ki kd s ∧ pidSum e kp ki kd s < 2 ^ 97 := by
  have h₁ := proportional_mem hp he
  have h₂ := integral_mem hi e s
  have h₃ := derivative_mem hd he s
  unfold pidSum
  omega

end

/-- Settles O31: range by range; `d` is bounded through its absolute value. -/
theorem pidIntermediatesFit : Obligations.PidIntermediatesFit := by
  intro e kp ki kd s he hp hi hd
  have hD := abs_le.1 (abs_pidD_le he s)
  exact ⟨pidDt_mem s, pidDe_mem he s, mul_pidDt_mem he s, pidCiSum_mem he s, by omega, proportional_mem hp he,
    integral_mem hi e s, derivative_mem hd he s, pidSum_mem he hp hi hd s⟩

end Sys2Proof.Machine
end

section
/-! PROOFS. The thermal datapath (44_thermal.md): the deficit as a clamp of its exact product (R115), and the on-time range by range
(R116). -/

namespace Sys2Proof.Machine

/-! ### The deficit -/

theorem inS32_satN (v : Int) : inS32 (satN 32 v) := by
  rw [satN_eq, inS32]
  omega

/-- A signed 32-bit value is kept by its bit pattern (00_scope.md R10). -/
theorem toInt_modN_of_inS32 {v : Int} (h : inS32 v) : (modN 32 v).toInt = v :=
  BitVec.toInt_ofInt_eq_self (by decide) h.1 h.2

/-- Saturation keeps the sign: the clamp's range has 0 inside (44_thermal.md R115). -/
theorem satN_pos_iff (v : Int) : satN 32 v > 0 ↔ v > 0 := by
  rw [satN_eq]
  omega

/-- Settles O32: `sat_32` is a clamp, whose value fits the register and has the sign of the product. -/
theorem deficitSaturatesKeepingSign : Obligations.DeficitSaturatesKeepingSign := by
  intro s exact clipped
  have hclip : satN 32 (deficitExact s) = clipped := satN_eq 32 exact
  rw [← hclip]
  exact ⟨rfl, toInt_modN_of_inS32 (inS32_satN _), satN_pos_iff _⟩

/-! ### The on-time -/

section
variable {out m : Word}

/-- The clamp (44_thermal.md R116). -/
theorem onTimeStep_of_above (h : out.toInt * m.toInt > 10000 * 2 ^ 32) : onTimeStep out m = some 10000 := by
  have hpos : ¬ onTimeExact out m ≤ 0 := Int.not_le.2 (lt_trans (by decide) h)
  exact (if_neg hpos).trans (if_pos h)

/-- Within the clamp the on-time is the exact product rounded down, which fits the register (44_thermal.md R116). -/
theorem onTimeStep_of_within (h0 : 0 < out.toInt * m.toInt) (h : out.toInt * m.toInt ≤ 10000 * 2 ^ 32) :
    ∃ ms : Word, onTimeStep out m = some ms ∧ (ms.toNat : Int) = out.toInt * m.toInt / 2 ^ 32 := by
  have hpos : ¬ onTimeExact out m ≤ 0 := Int.not_le.2 h0
  have hclamp : ¬ onTimeExact out m > (Config.clampMax : Int) * 2 ^ 32 := Int.not_lt.2 h
  refine ⟨_, (if_neg hpos).trans (if_neg hclamp), ?_⟩
  change ((BitVec.ofInt 32 (floorDiv (out.toInt * m.toInt) (2 ^ 32))).toNat : Int) = _
  rw [floorDiv_eq _ (by decide), BitVec.toNat_ofInt]
  omega

end

/-- Settles O33: range by range; within the clamp rounding down is off by less than 1 ms. -/
theorem onTimeIsClamped : Obligations.OnTimeIsClamped := by
  intro out mscoef
  refine ⟨onTimeStep_of_nonpos, onTimeStep_of_above, fun h0 h => ?_⟩
  obtain ⟨ms, hstep, hms⟩ := onTimeStep_of_within h0 h
  exact ⟨ms, hstep, by omega, by omega, by omega⟩

end Sys2Proof.Machine
end

section
/-! PROOFS. The control loop (45_control_loop.md): a cycle's EXEC step with the link down (R121), the session at a cycle's start
(R119), the start of the loop (R122) and its wait (R123). -/

namespace Sys2Proof.Machine

section
variable {s : State} {rest : List Event}

/-- A scheduled engine step where no reply is awaited (42_protocol.md R97). -/
theorem step_of_engine (hp : s.pending = .engine :: rest) (hf : s.fsm.replying = false) :
    step s = engineStep { s with pending := rest } :=
  (step_of_pending hp).trans (turn_engine_of_none (s := { s with pending := rest }) (if_neg (Bool.eq_false_iff.1 hf)))

/-! ### A cycle with the link down -/

/-- In EXEC a cycle's computation runs, whichever of the two owns it (45_control_loop.md R121). -/
theorem execStep_of_cycle (ho : s.origin = .cycleCmd ∨ s.origin = .loop) : execStep s = .next (controlStep s) := by
  rcases ho with ho | ho <;> simp only [execStep, ho]

/-- A CONNECTION_ERROR that no host command raises, with no link operation in flight, has the OP its raiser names
(60_exceptions.md R130, R131). -/
theorem raiseError_connectionError_of_none (hop : s.op = .none) (ho : s.origin ≠ .host) (given : BitVec 4) :
    raiseError .connectionError 0 0 given s = { s with
      fsm := .idle, op := .none, idx := 0, origin := .none, hostOp := 0
      errCause := { code := .connectionError, phase := 0, nak := false, byte := 0, op := given, seq := true }
      ipr := s.ipr ||| (if s.origin = .cycleCmd then 0b00011 else 0b00010)
      fatal := true, session := .deviceError, loopEn := false, loopRun := false, loopPhase := .off } := by
  have hgiven : errorOp s given = given := by rw [errorOp, hop]
  rw [raiseError_of_fatal rfl, hgiven]
  simp [ho]

/-- What a cycle's computation commands does not depend on the schedule (45_control_loop.md R121). -/
theorem commanded_withPending (s : State) :
    (controlCompute (sessionAtCycleStart (withPending rest s))).2 = (controlCompute (sessionAtCycleStart s)).2 := by
  rw [sessionAtCycleStart_withPending, controlCompute_withPending]

/-! ### The session at a cycle's start -/

/-- A session in Idle with START and a fresh reading begins to heat (45_control_loop.md R119). -/
theorem sessionAtCycleStart_of_heat (hf : s.fatal = false) (hs : s.session = .idle) (hst : s.start = true) (hfr : s.fresh = true) :
    sessionAtCycleStart s =
      if s.pidAutoclr then pidClear { s with session := .heating, heatEntry := true }
      else { s with session := .heating, heatEntry := true } :=
  (if_neg (Bool.eq_false_iff.1 hf)).trans (if_pos ⟨hs, hst, hfr⟩)

/-- A session that heats ends with START (45_control_loop.md R119). -/
theorem sessionAtCycleStart_of_stop (hf : s.fatal = false) (hs : s.session = .heating) (hst : s.start = false) :
    sessionAtCycleStart s = { s with heatEntry := false, session := .idle } := by
  have hidle : ¬ (s.session = .idle ∧ s.start = true ∧ s.fresh = true) := fun h => Session.noConfusion (hs.symm.trans h.1)
  exact (if_neg (Bool.eq_false_iff.1 hf)).trans ((if_neg hidle).trans (if_pos ⟨hs, Bool.eq_false_iff.1 hst⟩))

/-- Where neither move of the session is due it stays, a fatal error or not (45_control_loop.md R119). -/
theorem sessionAtCycleStart_of_stay (hheat : ¬ (s.session = .idle ∧ s.start = true ∧ s.fresh = true))
    (hstop : ¬ (s.session = .heating ∧ ¬ s.start = true)) : sessionAtCycleStart s = { s with heatEntry := false } := by
  unfold sessionAtCycleStart
  dsimp only
  rw [if_neg hheat, if_neg hstop, ite_self]

/-! ### The start of the loop and its wait -/

/-- What the start of the loop needs in IDLE (45_control_loop.md R122). -/
theorem loopCanStart_iff (hf : s.fsm = .idle) :
    loopCanStart s = true ↔ s.loopEn = true ∧ s.fatal = false ∧ s.loopRun = false := by
  simp [loopCanStart, hf, and_assoc]

/-- In IDLE the engine starts the loop or does nothing (45_control_loop.md R122). -/
theorem engineStep_of_idle (hf : s.fsm = .idle) : engineStep s = .next (if loopCanStart s then loopStart s else s) := by
  rw [engineStep, hf]

/-- A scheduled engine step in IDLE (45_control_loop.md R122). -/
theorem step_of_idle (hp : s.pending = .engine :: rest) (hf : s.fsm = .idle) :
    step s = .next (if loopCanStart s then loopStart { s with pending := rest } else { s with pending := rest }) :=
  (step_of_engine hp (by rw [hf]; rfl)).trans (engineStep_of_idle (s := { s with pending := rest }) hf)

/-- The wait is over when LOOP_EN is cleared or the period has elapsed (45_control_loop.md R123). -/
theorem waitOver_iff : waitOver s = true ↔ s.loopEn = false ∨ s.cyclePeriod.toNat ≤ (s.time - s.cycleStart).toNat := by
  simp only [waitOver, zext, ge_iff_le, Int.ofNat_le, Bool.or_eq_true, Bool.not_eq_true', decide_eq_true_iff]

theorem loopWaitStep_of_over (h : waitOver s = true) : loopWaitStep s = if s.loopEn then beginCycle s else loopStop s :=
  if_pos h

theorem loopWaitStep_of_not_over (h : ¬ waitOver s = true) : loopWaitStep s = s :=
  if_neg h

/-- A scheduled engine step in LOOP_WAIT (45_control_loop.md R123). -/
theorem step_of_loopWait (hp : s.pending = .engine :: rest) (hf : s.fsm = .loopWait) :
    step s = .next (loopWaitStep { s with pending := rest }) := by
  rw [step_of_engine hp (by rw [hf]; rfl)]
  simp only [engineStep, hf]

end

/-- Settles O37: the EXEC step is the error alone, whose OP the computation decides whatever is scheduled. -/
theorem cycleWithoutLinkFails : Obligations.CycleWithoutLinkFails := by
  intro s rest hp hf hop ho hl
  have hhost : s.origin ≠ .host := by rcases ho with ho | ho <;> rw [ho] <;> decide
  have hcontrol := controlStep_of_down (s := withPending rest s) hl
  rw [commanded_withPending, raiseError_connectionError_of_none (by exact hop) (by exact hhost)] at hcontrol
  exact (step_of_exec hp hf).trans ((execStep_of_cycle (by exact ho)).trans (congrArg _ hcontrol))

/-- Settles O34: the session heats, stops or stays. -/
theorem sessionAtCycleStartCases : Obligations.SessionAtCycleStartCases := by
  intro s
  refine ⟨sessionAtCycleStart_of_fatal, fun hf hs hst hfr hc => ?_, fun hf hs hst hfr hc => ?_, sessionAtCycleStart_of_stop,
    fun _ hs h => sessionAtCycleStart_of_stay ?_ ?_, fun _ hs hst => sessionAtCycleStart_of_stay ?_ ?_,
    fun hs => sessionAtCycleStart_of_stay ?_ ?_⟩
  · exact (sessionAtCycleStart_of_heat hf hs hst hfr).trans (if_neg (Bool.eq_false_iff.1 hc))
  · exact (sessionAtCycleStart_of_heat hf hs hst hfr).trans (if_pos hc)
  · rcases h with h | h <;> simp [h]
  · simp [hs]
  · simp [hs]
  · simp [hst]
  · simp [hs]
  · simp [hs]

/-- Settles O38: the step in IDLE by whether the loop can start, and its first read by the link. -/
theorem loopStartReadsFirst : Obligations.LoopStartReadsFirst := by
  intro s rest hp hf hop
  have hcan := loopCanStart_iff hf
  rw [step_of_idle hp hf]
  refine ⟨fun h => by rw [if_neg (mt hcan.1 h)], fun he hfa hr hl => ?_, fun he hfa hr hl => ?_⟩
  · rw [if_pos (hcan.2 ⟨he, hfa, hr⟩), loopStart, seqStartLink_of_up .read (by exact hl), startLink_eq]
  · rw [if_pos (hcan.2 ⟨he, hfa, hr⟩), loopStart, seqStartLink_read_of_down (by exact hl) (by exact hop) (by nofun), hf, hop]
    rfl

/-- Settles O40: the wait is over by LOOP_EN, by the period, or not at all. (`loopWaitStep` is the model's own function.) -/
theorem loopWaitStepCases : Obligations.LoopWaitStep := by
  intro s rest hp hf
  have hover := waitOver_iff (s := { s with pending := rest })
  rw [step_of_loopWait hp hf]
  refine ⟨fun he => ?_, fun he hb => ?_, fun he hb => ?_⟩
  · rw [loopWaitStep_of_over (hover.2 (.inl he)), if_neg (Bool.eq_false_iff.1 he)]; rfl
  · rw [loopWaitStep_of_over (hover.2 (.inr hb)), if_pos he]; rfl
  · rw [loopWaitStep_of_not_over fun h => (hover.1 h).elim (Bool.eq_false_iff.1 · he) (Nat.not_le.2 hb)]

end Sys2Proof.Machine
end

section
/-! PROOFS. Recording an error (60_exceptions.md R129): what each code writes. -/

namespace Sys2Proof.Machine

/-- Only code 1 can be a NAK (60_exceptions.md R129). -/
theorem nak_of_not_denied {code : ErrCode} (h : code ≠ .handshakeDenied) (byte : Byte) :
    decide (code = .handshakeDenied ∧ byte = 0x15) = false :=
  decide_eq_false fun hnak => h hnak.1

/-- Recording a checksum mismatch raises no interrupt and is not fatal (60_exceptions.md R129). -/
theorem recordError_of_mismatch (phase : BitVec 3) (byte : Byte) (op : BitVec 4) (seq : Bool) (s : State) :
    recordError .checksumMismatch phase byte op seq s = { s with
      errCause := { code := .checksumMismatch, phase := phase, nak := false, byte := byte, op := op, seq := seq } } :=
  rfl

/-- Settles O41: the fatal codes, the command errors and the mismatch each have one rule; outside code 1 the record's NAK is 0. -/
theorem recordErrorOverwritesCause : Obligations.RecordErrorOverwritesCause := by
  intro code phase byte op seq s
  refine ⟨fun hfatal => recordError_of_fatal hfatal phase byte op seq s, fun hcmd => ?_, fun hmismatch => ?_⟩
  · have hdenied : code ≠ .handshakeDenied := by rcases hcmd with rfl | rfl <;> decide
    rw [recordError_of_cmd hcmd, nak_of_not_denied hdenied]
    rfl
  · subst hmismatch
    rw [recordError_of_mismatch, nak_of_not_denied (by decide)]

end Sys2Proof.Machine
end

section
/-! PROOFS. The state after reset (70_reset_and_hazards.md R147): the packed words the host reads, then every register. -/

namespace Sys2Proof.Machine

theorem ctrlWord_reset : ctrlWord State.reset = 0x4 := by decide

theorem statusWord_reset : statusWord State.reset = 0 := by decide

theorem errWord_clear : errWord ErrCause.clear = 0 := by decide

theorem diagWord_reset : diagWord State.reset.cksDiag = 0 := by decide

/-- The reset column of 10_state.md R22. -/
theorem regRead_reset (r : Reg) : regRead r State.reset =
    if r = .id then 0x50425345 else if r = .ctrl then 0x4 else if r = .cyclePeriod then 0x000A0000 else 0 := by
  cases r
  case ctrl => exact ctrlWord_reset
  case status => exact statusWord_reset
  case errCause => exact errWord_clear
  case cksDiag => exact diagWord_reset
  all_goals rfl

/-- With no interrupt pending the line is low, whatever is enabled (60_exceptions.md R134). -/
theorem irq_of_ipr_zero {s : State} (h : s.ipr = 0) : irq s = false := by simp [irq, h]

/-- Settles O54: the registers by `regRead_reset`, the fields of the internal state as `State.reset` sets them, and the two outputs. -/
theorem resetValues : Obligations.ResetValues := by
  have hirq : irq State.reset = false := irq_of_ipr_zero rfl
  have htx : offered State.reset = none := rfl
  exact ⟨regRead_reset, rfl, rfl, rfl, rfl, rfl, rfl, rfl, rfl, rfl, rfl, rfl, rfl, rfl, rfl, rfl, rfl, rfl, rfl, rfl, rfl, rfl, rfl,
    hirq, htx⟩

end Sys2Proof.Machine
end
